-- ==== Sys2Proof/Word.lean ====
section
/-! DEFINITION. The words of the part's two ports and of the map page (00_scope.md, Conventions). -/

namespace Sys2Proof

/-- One byte of memory, of a frame or of a word. -/
abbrev Byte := BitVec 8

/-- A word of the 32-bit ports. -/
abbrev Word := BitVec 32

/-- A 24-bit byte address (00_scope.md, Key figures). -/
abbrev Addr := BitVec 24

/-- The four byte enables of an access; bit i enables byte i. -/
abbrev Enables := BitVec 4

/-- Cell time in milliseconds, which wraps (00_scope.md Table 0-4). -/
abbrev Time := BitVec 32

end Sys2Proof
end

