-- ==== Sys2Proof/Syntax.lean ====
section
/-! DEFINITION. The commands: one constructor of `Instr` per row of spec/opcode_table.json. The table gives a
row no operands; those here are what the row's rules say the event carries. -/

namespace Sys2Proof

/-- A character received on the weigh line, marked with its own errors (R71). -/
structure RxChar where
  byte    : Byte
  parity  : Bool
  framing : Bool
  broken  : Bool
deriving DecidableEq, Repr

/-- A host write of a command word (10_command_words.md 10.1): the code is the row's own. -/
structure CommandWrite where
  addr     : Addr
  enables  : Enables
  tag      : Byte
  argument : Byte
  outcome  : Byte
deriving DecidableEq, Repr

/-- A command: one of the part's steps, each whole and indivisible (95_what_each_step_holds.md). -/
inductive Instr where
  /-- R160: power-on reset. -/
  | powerOnReset
  /-- R157: cell reset. -/
  | cellReset
  /-- R10: the end of a 10 ms sweep period. -/
  | sweepEnd
  /-- R4, R185: bytes received on the return pair within the period. -/
  | returnFrame (bytes : List Byte)
  /-- R8: the sweep end at which the miss count of module `p` reaches 32. -/
  | moduleLost (p : Fin 10)
  /-- R12: the sweep end at which the health counter reaches 256. -/
  | linkOffline
  /-- R16: the sweep end of a fourth unanswered probe sweep. -/
  | discoveryShort
  /-- R19: the sweep end at which the ride count of the queue head reaches 30. -/
  | detailRideLimit
  /-- R21: a host write of RESTART LINK. -/
  | restartLink (w : CommandWrite)
  /-- R27: the sweep end at which zone `z` goes from FRESH or HELD to STALE. -/
  | zoneStale (z : Fin 40)
  /-- R39: the sweep end at which zone `z` raises SETPOINT NOT APPLIED. -/
  | setpointNotApplied (z : Fin 40)
  /-- R33: a host write to a zone word of the SETPOINT window. -/
  | setpointWrite (addr : Addr) (enables : Enables) (data : Word)
  /-- R35: a host write to a platen broadcast word of the SETPOINT window. -/
  | platenBroadcastWrite (addr : Addr) (enables : Enables) (data : Word)
  /-- R54: the sweep end at which daylight `d` faults with CURE GAP. -/
  | cureGap (d : Fin 4)
  /-- R54: the sweep end at which daylight `d` faults with CURE TIMEOUT. -/
  | cureTimeout (d : Fin 4)
  /-- R48: a host write of LOAD. -/
  | load (w : CommandWrite)
  /-- R57: a host write of DEMOULD. -/
  | demould (w : CommandWrite)
  /-- R59: a host write of ABORT. -/
  | abort (w : CommandWrite)
  /-- R63: a host write of SCRAP. -/
  | scrap (w : CommandWrite)
  /-- R64: a host write of MANUAL RELEASE. -/
  | manualRelease (w : CommandWrite)
  /-- R92: the sample of `pins` at which the debounced level of line `n` changes. -/
  | debouncedChange (n : Fin 32) (pins : BitVec 32)
  /-- R101: the timer of daylight `d` expires in EXTENDING. -/
  | strokeTimeout (d : Fin 4)
  /-- R102: the timer of daylight `d` expires in RETRACTING. -/
  | retractTimeout (d : Fin 4)
  /-- R104: the timer of daylight `d` expires in DWELL. -/
  | dwellExpiry (d : Fin 4)
  /-- R104: the timer of daylight `d` expires in FINAL RETRACT. -/
  | finalRetractTimeout (d : Fin 4)
  /-- R96: a host write of SET LINE. -/
  | setLine (w : CommandWrite)
  /-- R70: the start of a 25 ms poll slot. -/
  | poll
  /-- R70: the answer wait ends with no start bit. -/
  | answerWaitExpiry
  /-- R74: the miss at which head `h` becomes SILENT: no answer, or the answer given, which is discarded. -/
  | headSilent (h : Fin 4) (answer : Option (List RxChar))
  /-- R72: the end of an answer; the characters received, in arrival order. -/
  | answerEnd (chars : List RxChar)
  /-- R79: a host write of OPEN CHARGE. -/
  | openCharge (w : CommandWrite)
  /-- R84: a host write of CLOSE CHARGE. -/
  | closeCharge (w : CommandWrite)
  /-- R86: a host write of DISCARD CHARGE. -/
  | discardCharge (w : CommandWrite)
  /-- R85: the expiry check of a whole second. -/
  | chargeExpired
  /-- R176: a host write to a command word; `data` holds code, tag, argument and outcome byte. -/
  | unknownCode (addr : Addr) (enables : Enables) (data : Word)
  /-- R178: the completion stamp of channel `c` is placed in the injection queue. -/
  | stampPlaced (c : Fin 10)
  /-- R178: the write at the queue's head, the completion stamp of channel `c`, reaches memory. -/
  | completionStampReachesMemory (c : Fin 10)
  /-- R154: a waiting write takes a free place of the queue. -/
  | queuePlace
  /-- R154: the write at the queue's head reaches memory. -/
  | injectedWriteReachesMemory
  /-- R118: the append test is applied and the append begins when it passes. -/
  | appendBegin
  /-- R119: the write at the queue's head, an append's write-index word, reaches memory. -/
  | appendEnd
  /-- R117: a host write to the read-index word. -/
  | readIndexWrite (enables : Enables) (data : Word)
  /-- R138: a host read of the attention word. -/
  | attentionRead
  /-- R139: a host read of the pending-count word. -/
  | pendingCountRead
  /-- R137: a host write to the class mask word. -/
  | classMaskWrite (enables : Enables) (data : Word)
  /-- R151: a host read in the IMAGE window: of a block's first word, it fills the block's latch. -/
  | imageBlockFirstWordRead (addr : Addr)
  /-- R153: a host read in the RECORD window. -/
  | recordRead (addr : Addr)
  /-- R149, R150, R152, R153: a host write that no owner takes. -/
  | writeToOwnedWindow (addr : Addr) (enables : Enables) (data : Word)
  /-- R161: a host write to the commit word. -/
  | commit (enables : Enables) (data : Word)
  /-- R162: the last entry before the commit boundary reaches memory and the fetch starts. -/
  | commitFetchStart
  /-- R162: one fetch read of the map page ends its memory cycle. -/
  | fetchRead
  /-- R164: the Map Unit takes the validation decision. -/
  | validationDecision
  /-- R171: the switch of an accepted commit. -/
  | commitSwitch
  /-- R172: the write at the queue's head, the commit's stamp, reaches memory. -/
  | commitStampReachesMemory
  /-- R92: the sample of one millisecond; bit n of `pins` is the level of pin n. -/
  | sample (pins : BitVec 32)
deriving DecidableEq, Repr

end Sys2Proof
end

