-- ==== Sys2Proof/Decode.lean ====
section
/-! DEFINITION. The commands that a word of spec/opcode_table.json spells: none, since no row gives bits (log 25). -/

namespace Sys2Proof

/-- The command a word spells by the table's bits. No row of the table gives any (98_reader.md: "n_rows_with_fixed": 0). -/
def decodeTableWord (_nbits _w : Nat) : Option Instr := none

end Sys2Proof
end

