-- ==== Sys2Proof/Config.lean ====
section
/-! DEFINITION. What the part fixes (sizes, limits, addresses) and the free values: what the manual leaves open. -/

namespace Sys2Proof.Config

/-- Entries the injection queue holds (R154). -/
def queueCap : Nat := 64

/-- Queue fill at which the part side is preferred: the starvation bound (R155). -/
def starvation : Nat := 48

/-- Miss count at which a module is lost (R8). -/
def missLimit : Nat := 32

/-- Greatest value of the health counter, at which the link goes OFFLINE (R9, R11). -/
def healthMax : Nat := 256

/-- Health counter value at which a RUNNING link becomes DEGRADED (R11). -/
def degradeAt : Nat := 128

/-- Health counter value at which LINK WARNED is raised (R11). -/
def warnAt : Nat := 96

/-- Probe sweeps of one position before discovery ends short (R16). -/
def probeLimit : Nat := 4

/-- Sweeps the head of the detail-fetch queue rides at most (R19). -/
def rideLimit : Nat := 30

/-- Held count at which a zone becomes STALE (R27). -/
def staleAt : Nat := 9

/-- Delivery counter value at which SETPOINT NOT APPLIED is raised (R39). -/
def notAppliedAt : Nat := 30

/-- Greatest temperature and setpoint, in 0.1 °C (00_scope.md Table 0-4). -/
def tempMax : Nat := 4000

/-- Consecutive misses that make a head SILENT (R74). -/
def silentAt : Nat := 10

/-- Characters the receive buffer of the weigh line holds (R71). -/
def rxCap : Nat := 16

/-- Entries the pending set holds (R131). -/
def pendingCap : Nat := 32

/-- Backlog slots, occupied and reserved together at most (R114). -/
def backlogCap : Nat := 4

/-- First byte address of the map page (00_scope.md, Key figures). -/
def mapPage : Nat := 0xFFF000

/-- Words of the map page, one fetch read each (R162). -/
def pageWords : Nat := 1024

/-- What a byte of memory that nothing has written reads as: DESIGN CHOICE, the spec gives no contents (log 1). -/
def unwritten : Byte := 0

/-- FREE VALUE (log 9): where a report stands among the reports offered together with it (R135 leaves the
order open). Indexed by the choice counter, the kind and the source; reports of one kind and source keep
the order in which their block raised them. -/
opaque reportKey : Nat → Nat → Nat → Nat

/-- FREE VALUE (log 10): where a line stands among the lines whose levels change at one sample (R107, R127). -/
opaque lineKey : Nat → Nat → Nat

/-- FREE VALUE (log 11): whether the stamp of a demould that succeeds enters the queue ahead of the record
words its close places (12_worked_sequences.md, step 13: "ahead of the record words or behind them"). -/
opaque stampAhead : Nat → Bool

/-- FREE VALUE (log 12): the status flags a head word shows while the head has no last valid answer (R89). -/
opaque noAnswerStatus : Nat → Nat → BitVec 4

/-- FREE VALUE (log 12): the weight a head word shows while the head has no last valid answer (R89). -/
opaque noAnswerWeight : Nat → Nat → BitVec 24

end Sys2Proof.Config
end

