-- ==== Sys2Proof/Machine/State.lean ====
section
/-! DEFINITION. The state of the part as plain data, every piece the manual names, and the state after
power-on reset. Map fields of zones, lines, heads, daylights, windows and ring have one home: the map in effect. -/

namespace Sys2Proof.Machine

/-! ## Memory -/

/-- Memory at the memory port: (address, byte), addresses strictly rising, no byte equal to what an
unlisted address reads as. -/
abbrev Memory := List Host.Cell

/-! ## The cell map (chapter 9, 11.2) -/

/-- An entry of the window table (11.2). -/
structure Window where
  base  : Nat
  pages : Nat
deriving DecidableEq, Repr

/-- A zone entry of the map (Table 11-3). Position 0xFF: unmapped. -/
structure ZoneEntry where
  position : Nat
  channel  : Nat
  dose     : Bool
  minimum  : Nat
  maximum  : Nat
  ramp     : Nat
  alarm    : Nat
deriving DecidableEq, Repr

/-- A recipe entry of the map (Table 11-3). -/
structure RecipeEntry where
  valid      : Bool
  target     : Int
  tolerance  : Int
  minPly     : Nat
  maxPlies   : Nat
  life       : Nat
  activation : Nat
  doseTarget : Nat
  maxCure    : Nat
  maxGap     : Nat
  stroke     : Nat
  retries    : Nat
  dwell      : Nat
deriving DecidableEq, Repr

/-- A line entry of the map (Table 11-3). -/
structure LineEntry where
  mode     : Nat
  function : Nat
  daylight : Nat
  polarity : Nat
deriving DecidableEq, Repr

/-- The tables and settings of a map (11.2), fields unsigned at full width unless marked signed (R184). -/
structure CellMap where
  dayEnable  : BitVec 4
  headEnable : BitVec 4
  modules    : Nat
  baud       : Nat
  settle     : Nat
  band       : Nat
  ringBase   : Nat
  ringCap    : Nat
  channels   : Vector Nat 10
  setpointW  : Window
  imageW     : Window
  commandW   : Window
  recordW    : Window
  zones      : Vector ZoneEntry 40
  recipes    : Vector RecipeEntry 16
  lines      : Vector LineEntry 32
deriving DecidableEq, Repr

/-- The power-on values every block uses until the first switch (R160): no zone mapped (R43), every line
UNUSED (R109), every head and daylight disabled, no window, no ring. The settings that no rule gives a power-on value
(module and channel counts, baud code, settle count and band, recipes, the other fields of a line) are 0, the model's
choice (log 18). -/
def CellMap.powerOn : CellMap where
  dayEnable := 0
  headEnable := 0
  modules := 0
  baud := 0
  settle := 0
  band := 0
  ringBase := 0
  ringCap := 0
  channels := Vector.replicate 10 0
  setpointW := ⟨0, 0⟩
  imageW := ⟨0, 0⟩
  commandW := ⟨0, 0⟩
  recordW := ⟨0, 0⟩
  zones := Vector.replicate 40 ⟨0xFF, 0, false, 0, 0, 0, 0⟩
  recipes := Vector.replicate 16 ⟨false, 0, 0, 0, 0, 0, 0, 0, 0, 0, 0, 0, 0⟩
  lines := Vector.replicate 32 ⟨0, 0, 0, 0⟩

/-! ## The Heat Link Controller (chapter 1) -/

/-- Link states (Table 1-3). -/
inductive LinkState where
  | down | discovering | running | degraded | offline
deriving DecidableEq, Repr

/-- Module states (Table 1-5). -/
inductive ModuleState where
  | unknown | present | mismatch | missing | lost
deriving DecidableEq, Repr

/-- An entry of the module table (1.6); whether it is in the detail-fetch queue is the queue's to say. -/
structure Module where
  state     : ModuleState
  miss      : Nat
  attention : Bool
  tripped   : Bool
deriving DecidableEq, Repr

/-- The command slot of an outbound frame (Table 1-1). -/
inductive CommandSlot where
  | none
  | discover (n : Nat)
  | detail (p : Fin 10)
deriving DecidableEq, Repr

/-- The sweep in flight: what its outbound frame carried (R3, R4). -/
structure Sweep where
  count : Nat
  slot  : CommandSlot
  found : Nat
  bytes : List Byte
deriving DecidableEq, Repr

/-- The Heat Link Controller. While DISCOVERING the probed position is `found` (R15). -/
structure Link where
  state      : LinkState
  health     : Nat
  sweepCount : Nat
  found      : Nat
  probes     : Nat
  modules    : Vector Module 10
  queue      : List (Fin 10)
  ride       : Nat
  restart    : Bool
  restarted  : Bool
  inFlight   : Option Sweep
  received   : List Byte
deriving DecidableEq, Repr

/-! ## The Zone Unit (chapter 2) -/

/-- Reading states (Table 2-2). -/
inductive ReadingState where
  | absent | fresh | held | stale | failed
deriving DecidableEq, Repr

/-- Channel status (Table 1-2, 11.5). -/
inductive ChannelStatus where
  | ok | sensorBreak | tripped | disabled
deriving DecidableEq, Repr

/-- Delivery states (R38). -/
inductive Delivery where
  | none | pending | delivered
deriving DecidableEq, Repr

/-- The run-time fields of a zone record (Table 2-1); the map fields are the map in effect's. -/
structure Zone where
  reading    : Option Nat
  rstate     : ReadingState
  heldCount  : Nat
  status     : ChannelStatus
  tripMemory : Bool
  latched    : Bool
  request    : Option Nat
  applied    : Option Nat
  delivery   : Delivery
  counter    : Nat
  notApplied : Bool
deriving DecidableEq, Repr

/-! ## The Daylight Unit (chapter 3) and the open record (chapter 6) -/

/-- Daylight states (Table 3-2). -/
inductive DayState where
  | vacant | loaded | curing | held | cured | demoulding | faulted
deriving DecidableEq, Repr

/-- Fault reasons (Table 3-3). -/
inductive FaultReason where
  | none | cureGap | cureTimeout | stuck | notHome | stopped | aborted | closedDuring
deriving DecidableEq, Repr

/-- The recipe fields a daylight uses (Table 3-1). -/
structure CureRecipe where
  index      : Nat
  activation : Nat
  doseTarget : Nat
  maxCure    : Nat
  maxGap     : Nat
  stroke     : Nat
  retries    : Nat
  dwell      : Nat
deriving DecidableEq, Repr

/-- A change entry of an open record (R111). -/
structure ChangeEntry where
  target   : Nat
  old      : Option Nat
  new      : Nat
  seconds  : Nat
deriving DecidableEq, Repr

/-- What a daylight's open record holds beside the context's own fields (Table 6-1, R48, R110). The serial,
charge id, recipe index and dose target are the context's, which keeps them after the close (R44). -/
structure OpenRecord where
  head        : Fin 4
  plies       : List Nat
  total       : Int
  loadTime    : Time
  cureStart   : Option Time
  curedTime   : Option Time
  changes     : List ChangeEntry
  lost        : Nat
  overtemp    : Bool
  degraded    : Bool
  notApplied  : Bool
deriving DecidableEq, Repr

/-- A daylight context (Table 3-1). -/
structure Daylight where
  state         : DayState
  recipe        : CureRecipe
  dose          : Nat
  sweeps        : Nat
  gap           : Nat
  totalGap      : Nat
  interruptions : Nat
  minTemp       : Option Nat
  maxTemp       : Option Nat
  fault         : FaultReason
  attempts      : Nat
  reserved      : Bool
  serial        : Nat
  chargeId      : Nat
  record        : Option OpenRecord
deriving DecidableEq, Repr

/-! ## The Demould Sequencer (5.4) -/

/-- Demould phases (Table 5-4). -/
inductive Phase where
  | idle | extending | retracting | dwell | finalRetract
deriving DecidableEq, Repr

/-- The result of the last stroke (5.4). -/
inductive Stroke where
  | none | confirmed | failed
deriving DecidableEq, Repr

/-- Stop reasons (R103). -/
inductive StopReason where
  | none | stopped | closedDuring | aborted
deriving DecidableEq, Repr

/-- A sequencer context (5.4). The EJECT drive is a view of the phase (R99). -/
structure Sequencer where
  phase    : Phase
  stroke   : Nat
  retries  : Nat
  dwell    : Nat
  attempts : Nat
  last     : Stroke
  stop     : StopReason
  expiry   : Option Time
deriving DecidableEq, Repr

/-! ## The Weigh Channel (chapter 4) -/

/-- Head states (Table 4-2). -/
inductive HeadState where
  | disabled | unknown | ready | silent
deriving DecidableEq, Repr

/-- A valid answer: its four status flags and its weight (R72). -/
structure Answer where
  flags  : BitVec 4
  weight : Int
deriving DecidableEq, Repr

/-- A head context (4.2). -/
structure Head where
  state  : HeadState
  misses : Nat
  errors : Nat
  last   : Option Answer
  window : List Int
  held   : Option (Fin 6)
deriving DecidableEq, Repr

/-- Charge slot states (4.3). -/
inductive ChargeState where
  | free | opened | complete | rejected | suspect | expired
deriving DecidableEq, Repr

/-- Charge reasons (Table 4-4). -/
inductive ChargeReason where
  | none | under | over | noPlies | plyTooHeavy | plyListFull | unexplainedRemoval | headSilent
deriving DecidableEq, Repr

/-- A charge's recipe snapshot: the index and every field of the entry (Table 4-3). -/
structure RecipeSnapshot where
  index : Nat
  entry : RecipeEntry
deriving DecidableEq, Repr

/-- A charge slot (Table 4-3). -/
structure ChargeSlot where
  state     : ChargeState
  head      : Fin 4
  id        : Nat
  recipe    : RecipeSnapshot
  reference : Int
  plies     : List Nat
  total     : Int
  reason    : ChargeReason
  completed : Time
deriving DecidableEq, Repr

/-- The poll slot in progress: the head polled, the poll sent, whether its result is to be discarded (R69). -/
structure PollSlot where
  head    : Fin 4
  sent    : List Byte
  discard : Bool
deriving DecidableEq, Repr

/-- The Weigh Channel. -/
structure Weigh where
  lastPolled : Option (Fin 4)
  slot       : Option PollSlot
  buffer     : List RxChar
  overlong   : Bool
  heads      : Vector Head 4
  charges    : Vector ChargeSlot 6
  nextId     : Nat
deriving DecidableEq, Repr

/-! ## The Line Unit (chapter 5) -/

/-- A line's run-time state (R92, R95); its entry is the map in effect's. -/
structure Line where
  level : Bool
  run   : Nat
  latch : Bool
deriving DecidableEq, Repr

/-! ## The History Unit (chapter 6) -/

/-- The ring in effect with its read index (R116). -/
structure Ring where
  base  : Nat
  cap   : Nat
  read  : Nat
deriving DecidableEq, Repr

/-- The History Unit. No read index and no ring is in effect before the first successful commit (R128). -/
structure History where
  backlog  : Vector (List Byte) 4
  fill     : Fin 4
  oldest   : Fin 4
  occupied : Nat
  reserved : Nat
  append   : Option Nat
  ring     : Option Ring
  write    : Nat
  ringFull : Bool
  counter  : Nat
deriving DecidableEq, Repr

/-! ## The Attention Unit (chapter 7) -/

/-- Cause kinds (Table 7-2). -/
inductive CauseKind where
  | zoneOvertemp | zoneSensorFailed | zoneTripped | moduleAttention | moduleLost | linkOffline
  | setpointNotApplied | cellStop | demouldFailed | ejectorAttemptFailed | cureFault | cureInterrupted
  | cured | chargeSuspect | chargeRejected | headSilent | weighLineError | chargeExpired | chargeComplete
  | ringFull | ringIndexInvalid | linkDegraded | linkWarned | discoveryShort | moduleMismatch
  | commitRefused | setpointRefused | commandWhileBusy | partialWrite | writeToOwnedWindow | commitAccepted
deriving DecidableEq, Repr

/-- An entry of the pending set (7.2). -/
structure Entry where
  kind   : CauseKind
  source : Byte
  detail : Byte
  count  : Nat
deriving DecidableEq, Repr

/-- What a block hands to the Attention Unit: a cause (R129) or the resolution of a module's detail (R134). -/
inductive Report where
  | cause (kind : CauseKind) (source detail : Byte)
  | resolution (position : Fin 10) (detail : Byte)
deriving DecidableEq, Repr

/-- The Attention Unit. The set has no order of its own (7.2): held by rising kind, then source. -/
structure Attention where
  set      : List Entry
  overflow : Bool
  mask     : BitVec 6
deriving DecidableEq, Repr

/-! ## The Memory Passage (chapter 8) -/

/-- The producers of injected writes (R154). -/
inductive Producer where
  | history | command | map
deriving DecidableEq, Repr

/-- What an injected write is, by which its arrival in memory is reported to its producer (R154). -/
inductive Purpose where
  | recordWord | indexWord | lastSerial | stamp (c : Fin 10) | commitStamp | indexZero
deriving DecidableEq, Repr

/-- An entry of the injection queue: a full-word write (R154). -/
structure QEntry where
  addr    : Addr
  data    : Word
  purpose : Purpose
deriving DecidableEq, Repr

/-- A host access: a write of a word, or a read when `data` is absent (R143). -/
structure Access where
  addr    : Addr
  enables : Enables
  data    : Option Word
deriving DecidableEq, Repr

/-- The memory cycle of a passed access; a command write names the channel whose word it is (R152, R178). -/
structure Cycle where
  access  : Access
  channel : Option (Fin 10)
deriving DecidableEq, Repr

/-- The host port (R143, R148, R153, R155). -/
inductive Port where
  /-- No access in progress. -/
  | idle
  /-- A map-page access held during a fetch (R148). -/
  | heldFetch (a : Access)
  /-- A RECORD read held until `left` more queue entries have reached memory (R153). -/
  | heldRecord (a : Access) (left : Nat)
  /-- A passed access waiting for the memory port (R155). -/
  | claiming (c : Cycle)
deriving DecidableEq, Repr

/-- What the host port last completed with (R143). -/
inductive Reply where
  | none
  | wrote
  | read (data : Word)
deriving DecidableEq, Repr

/-- The Memory Passage. Latches 0..3: daylight blocks, 4..9: charge slot blocks, 10: the link block (R151). -/
structure Passage where
  mapped   : Bool
  latches  : Vector (Option (List Word)) 11
  queue    : List QEntry
  waiting  : List (Producer × List QEntry)
  boundary : Option Nat
  port     : Port
  upcoming : List Access
  reply    : Reply
deriving DecidableEq, Repr

/-! ## The Map Unit (chapter 9) -/

/-- Commit states (R160). -/
inductive CommitStage where
  | idle | waiting | fetching | validating | switching | stamping
deriving DecidableEq, Repr

/-- The Map Unit (R160). -/
structure MapUnit where
  map        : Option CellMap
  generation : BitVec 16
  first      : Bool
  stage      : CommitStage
  commitGen  : BitVec 16
  copy       : List Word
deriving DecidableEq, Repr

/-! ## The Command Unit (chapter 10) -/

/-- A channel's state and, while BUSY, its phase (R175). -/
inductive ChannelPhase where
  | idle | running | stamping
deriving DecidableEq, Repr

/-- The stamp word and the stamp address (R175). -/
structure Stamp where
  code     : Byte
  tag      : Byte
  argument : Byte
  addr     : Addr
deriving DecidableEq, Repr

/-- A channel record (R175). `placed`: the stamp has been handed to the queue (it may wait for room, R154);
`written`: the host's write of the command named in the stamp word has reached memory (R178). -/
structure Channel where
  phase      : ChannelPhase
  stamp      : Option Stamp
  abort      : Bool
  completion : Option Byte
  placed     : Bool
  written    : Bool
deriving DecidableEq, Repr

/-! ## The whole state -/

/-- The state of the part, the memory at its memory port and the queue of commands.
`offers` (the reports of the step under way), `choice` (the index of the free values) and `pending` are the
model's own fields. -/
structure State where
  time    : Time
  link    : Link
  zones   : Vector Zone 40
  days    : Vector Daylight 4
  seqs    : Vector Sequencer 4
  weigh   : Weigh
  lines   : Vector Line 32
  hist    : History
  att     : Attention
  pass    : Passage
  maps    : MapUnit
  chans   : Vector Channel 10
  mem     : Memory
  offers  : List Report
  choice  : Nat
  pending : List Instr
deriving DecidableEq, Repr

/-- R143: the host port has no error response, and nothing the manual describes stops the part: no
constructor, so no step faults. -/
inductive Fault
deriving DecidableEq, Repr

/-- Reasons to give a command no meaning. -/
inductive Refusal where
  /-- Raised by `exec` alone, for a command that has no meaning yet; safe: the model stops where the part goes on. -/
  | notModelled (mnemonic : String)
deriving DecidableEq, Repr

/-! ## The state after power-on reset -/

/-- R23. -/
def Module.powerOn : Module := ⟨.unknown, 0, false, false⟩

/-- R23. -/
def Link.powerOn : Link where
  state := .down
  health := 0
  sweepCount := 0
  found := 0
  probes := 0
  modules := Vector.replicate 10 Module.powerOn
  queue := []
  ride := 0
  restart := false
  restarted := false
  inFlight := none
  received := []

/-- R43. -/
def Zone.powerOn : Zone where
  reading := none
  rstate := .absent
  heldCount := 0
  status := .disabled
  tripMemory := false
  latched := false
  request := none
  applied := none
  delivery := .none
  counter := 0
  notApplied := false

/-- R44. -/
def Daylight.powerOn : Daylight where
  state := .vacant
  recipe := ⟨0, 0, 0, 0, 0, 0, 0, 0⟩
  dose := 0
  sweeps := 0
  gap := 0
  totalGap := 0
  interruptions := 0
  minTemp := none
  maxTemp := none
  fault := .none
  attempts := 0
  reserved := false
  serial := 0
  chargeId := 0
  record := none

/-- R109; the stroke parameters are a choice (log 18). -/
def Sequencer.powerOn : Sequencer where
  phase := .idle
  stroke := 0
  retries := 0
  dwell := 0
  attempts := 0
  last := .none
  stop := .none
  expiry := none

/-- R90. -/
def Head.powerOn : Head := ⟨.disabled, 0, 0, none, [], none⟩

/-- R90: FREE, fields 0, completion time all ones. -/
def ChargeSlot.powerOn : ChargeSlot where
  state := .free
  head := 0
  id := 0
  recipe := ⟨0, ⟨false, 0, 0, 0, 0, 0, 0, 0, 0, 0, 0, 0, 0⟩⟩
  reference := 0
  plies := []
  total := 0
  reason := .none
  completed := 0xFFFFFFFF#32

/-- R90; the receive buffer is a choice (log 18). -/
def Weigh.powerOn : Weigh where
  lastPolled := none
  slot := none
  buffer := []
  overlong := false
  heads := Vector.replicate 4 Head.powerOn
  charges := Vector.replicate 6 ChargeSlot.powerOn
  nextId := 1

/-- R128; the contents of empty backlog slots are a choice (log 18), and so is the write index, which the manual calls
unknown (log 19). -/
def History.powerOn : History where
  backlog := Vector.replicate 4 (List.replicate 128 0)
  fill := 0
  oldest := 0
  occupied := 0
  reserved := 0
  append := none
  ring := none
  write := 0
  ringFull := false
  counter := 0

/-- R158; the reply is a choice (log 18). -/
def Passage.powerOn : Passage where
  mapped := false
  latches := Vector.replicate 11 none
  queue := []
  waiting := []
  boundary := none
  port := .idle
  upcoming := []
  reply := .none

/-- R175. -/
def Channel.powerOn : Channel := ⟨.idle, none, false, none, false, false⟩

/-- The part right after power-on reset, memory with nothing listed and no command waiting. -/
def State.reset : State where
  time := 0
  link := Link.powerOn
  zones := Vector.replicate 40 Zone.powerOn
  days := Vector.replicate 4 Daylight.powerOn
  seqs := Vector.replicate 4 Sequencer.powerOn
  weigh := Weigh.powerOn
  lines := Vector.replicate 32 ⟨false, 0, false⟩
  hist := History.powerOn
  att := ⟨[], false, 0x3F#6⟩
  pass := Passage.powerOn
  maps := ⟨none, 0, true, .idle, 0, []⟩
  chans := Vector.replicate 10 Channel.powerOn
  mem := []
  offers := []
  choice := 0
  pending := []

/-! ## Replacing one part of the state -/

def State.setTime (s : State) (x : Time) : State := { s with time := x }
def State.setLink (s : State) (x : Link) : State := { s with link := x }
def State.setZones (s : State) (x : Vector Zone 40) : State := { s with zones := x }
def State.setDays (s : State) (x : Vector Daylight 4) : State := { s with days := x }
def State.setSeqs (s : State) (x : Vector Sequencer 4) : State := { s with seqs := x }
def State.setWeigh (s : State) (x : Weigh) : State := { s with weigh := x }
def State.setLines (s : State) (x : Vector Line 32) : State := { s with lines := x }
def State.setHist (s : State) (x : History) : State := { s with hist := x }
def State.setAtt (s : State) (x : Attention) : State := { s with att := x }
def State.setPass (s : State) (x : Passage) : State := { s with pass := x }
def State.setMaps (s : State) (x : MapUnit) : State := { s with maps := x }
def State.setChans (s : State) (x : Vector Channel 10) : State := { s with chans := x }
def State.setMem (s : State) (x : Memory) : State := { s with mem := x }
def State.setOffers (s : State) (x : List Report) : State := { s with offers := x }
def State.setChoice (s : State) (x : Nat) : State := { s with choice := x }
def State.setPending (s : State) (x : List Instr) : State := { s with pending := x }

end Sys2Proof.Machine
end

