-- ==== Sys2Proof/Machine/Operands.lean ====
section
/-! DEFINITION. How words, frames and the map page are read and built: the layouts and checks of chapter 11. -/

namespace Sys2Proof.Machine

/-! ## Bytes and words, least significant byte first (00_scope.md, Byte order) -/

/-- Byte `i` of a word. -/
def wordByte (w : Word) (i : Nat) : Byte := w.extractLsb' (8 * i) 8

/-- The word with bytes `b0` (lowest address) to `b3`. -/
def wordOf (b0 b1 b2 b3 : Byte) : Word := b3 ++ b2 ++ b1 ++ b0

/-- A number as one byte. -/
def byteOf (n : Nat) : Byte := BitVec.ofNat 8 n

/-- The two bytes of a 16-bit number. -/
def bytes16 (n : Nat) : List Byte := [byteOf n, byteOf (n / 256)]

/-- The four bytes of a 32-bit word. -/
def bytes32 (w : Word) : List Byte := [wordByte w 0, wordByte w 1, wordByte w 2, wordByte w 3]

/-- Byte `i` of a byte string; 0 beyond its end. -/
def byteAt (l : List Byte) (i : Nat) : Byte := l.getD i 0

/-- The 16-bit number at offset `i`. -/
def num16 (l : List Byte) (i : Nat) : Nat := (byteAt l i).toNat + 256 * (byteAt l (i + 1)).toNat

/-- The 32-bit word at offset `i`. -/
def word32 (l : List Byte) (i : Nat) : Word :=
  wordOf (byteAt l i) (byteAt l (i + 1)) (byteAt l (i + 2)) (byteAt l (i + 3))

/-- A 16-bit field that shows 0xFFFF when absent (R184). -/
def field16 : Option Nat → Nat
  | some n => n
  | none => 0xFFFF

/-- A record time, all ones when absent (R184). -/
def fieldTime : Option Time → Word
  | some t => t
  | none => 0xFFFFFFFF#32

/-! ## The CRC-16 and the check byte (R183) -/

/-- One data bit into the CRC register. -/
def crcBit (r : BitVec 16) (bit : Bool) : BitVec 16 :=
  if r.msb != bit then (r <<< 1) ^^^ 0x1021#16 else r <<< 1

/-- One byte into the CRC register, most significant bit first. -/
def crcByte (r : BitVec 16) (b : Byte) : BitVec 16 :=
  [7, 6, 5, 4, 3, 2, 1, 0].foldl (fun acc i => crcBit acc (b.getLsbD i)) r

/-- The CRC-16 over a span of bytes. -/
def crc16 (span : List Byte) : BitVec 16 := span.foldl crcByte 0xFFFF#16

/-- The least significant byte of the CRC-16, the one-byte check of the weigh frames. -/
def crcLow (span : List Byte) : Byte := (crc16 span).extractLsb' 0 8

/-- The stored CRC-16, least significant byte first. -/
def crcBytes (span : List Byte) : List Byte := bytes16 (crc16 span).toNat

/-- The sum of a section's bytes modulo 256. -/
def byteSum (span : List Byte) : Byte := span.foldl (· + ·) 0

/-! ## The outbound frame (R3, R185) -/

/-- Kind and argument bytes of the command slot. -/
def CommandSlot.bytes : CommandSlot → List Byte
  | .none => [0x00, 0]
  | .discover n => [0x01, byteOf n]
  | .detail p => [0x02, byteOf p.val]

/-- The outbound frame of a sweep: preamble, count, slot, header CRC, setpoint sections, frame CRC. -/
def outboundFrame (count : Nat) (slot : CommandSlot) (sections : List (List Nat)) : List Byte :=
  let header := [0xA5, 0x3C, byteOf count] ++ slot.bytes
  let body := header ++ crcBytes header ++ sections.flatMap (fun sec => sec.flatMap bytes16)
  body ++ crcBytes body

/-! ## The return frame (R4, R6, R185) -/

/-- The frame from its preamble on; bytes before a complete preamble belong to none. -/
def findFrame : List Byte → Option (List Byte)
  | [] => none
  | a :: rest =>
    match rest with
    | [] => none
    | b :: _ => if a = 0xA5 ∧ b = 0xC3 then some (a :: rest) else findFrame rest

/-- R4: the header is good when it was received, its CRC is good and it echoes the sweep count. -/
def headerGood (frame : List Byte) (count : Nat) : Bool :=
  decide (5 ≤ frame.length) && num16 frame 3 == (crc16 (frame.take 3)).toNat && (byteAt frame 2).toNat == count

/-- R185: place `i`, when wholly received. -/
def place (frame : List Byte) (i : Nat) : Option (List Byte) :=
  if 27 + 22 * i ≤ frame.length then some ((frame.drop (5 + 22 * i)).take 22) else none

/-- The classes of a place (R6). -/
inductive PlaceClass where
  | missing | checkError | good
deriving DecidableEq, Repr

/-- R6: the class of place `i`. -/
def classifyPlace (i : Nat) : Option (List Byte) → PlaceClass
  | none => .missing
  | some sec =>
    if byteAt sec 0 = 0xFF then .missing
    else if byteSum sec ≠ 0 ∨ (byteAt sec 0).toNat ≠ i then .checkError
    else .good

/-- The two bits of a channel's status (11.5). -/
def ChannelStatus.ofBits (n : Nat) : ChannelStatus :=
  match n with
  | 0 => .ok
  | 1 => .sensorBreak
  | 2 => .tripped
  | _ => .disabled

/-- The status code shown in the IMAGE window (R42). -/
def ChannelStatus.code : ChannelStatus → Nat
  | .ok => 0
  | .sensorBreak => 1
  | .tripped => 2
  | .disabled => 3

/-- A module's reading of one sweep (R7). -/
structure Reading where
  temps  : Vector Nat 4
  status : Vector ChannelStatus 4
  held   : Vector Nat 4
deriving DecidableEq, Repr

/-- The reading in a return section (11.5). -/
def sectionReading (sec : List Byte) : Reading where
  temps := Vector.ofFn fun c => num16 sec (2 + 2 * c.val)
  status := Vector.ofFn fun c => ChannelStatus.ofBits ((byteAt sec 10).toNat / 4 ^ c.val % 4)
  held := Vector.ofFn fun c => num16 sec (11 + 2 * c.val)

/-- The attention flag of a return section. -/
def sectionAttention (sec : List Byte) : Bool := (byteAt sec 1).getLsbD 0

/-- The any-channel-tripped flag of a return section. -/
def sectionTripped (sec : List Byte) : Bool := (byteAt sec 1).getLsbD 1

/-- The first response byte: identity kind or detail code. -/
def sectionKind (sec : List Byte) : Byte := byteAt sec 19

/-- The second response byte: the channel count of an identity. -/
def sectionChannels (sec : List Byte) : Byte := byteAt sec 20

/-- R19: a response that carries a detail code lies in 0x01..0xFE. -/
def isDetailCode (b : Byte) : Bool := b != 0x00 && b != 0xFF

/-! ## The weigh frames (R70, R72, 11.6) -/

/-- The poll of head `h`. -/
def pollFrame (h : Fin 4) : List Byte :=
  [0x7E, byteOf (h.val + 1), crcLow [0x7E, byteOf (h.val + 1)]]

/-- A character with a parity, framing or break error. -/
def RxChar.bad (c : RxChar) : Bool := c.parity || c.framing || c.broken

/-- R72: the kind of error that discards an answer to head `h`, or the valid answer (log 16, log 24). -/
def evaluateAnswer (h : Fin 4) (chars : List RxChar) : Except Byte Answer :=
  let buffer := (chars.take Config.rxCap).map (·.byte)
  if chars.any RxChar.bad then .error 0x01
  else if Config.rxCap < chars.length then .error 0x02
  else if buffer.length ≠ 7 ∨ byteAt buffer 0 ≠ 0x7D ∨ byteAt buffer 6 ≠ crcLow (buffer.take 6) then .error 0x03
  else if byteAt buffer 1 ≠ byteOf (h.val + 1) then .error 0x04
  else .ok ⟨(byteAt buffer 2).extractLsb' 0 4, (byteAt buffer 5 ++ byteAt buffer 4 ++ byteAt buffer 3).toInt⟩

/-! ## The map page (11.2) -/

/-- Byte `o` of the fetched copy. -/
def pageByte (copy : List Word) (o : Nat) : Byte := wordByte (copy.getD (o / 4) 0) (o % 4)

/-- The one-byte number at offset `o`. -/
def page8 (copy : List Word) (o : Nat) : Nat := (pageByte copy o).toNat

/-- The 16-bit number at offset `o`, from its byte offset. -/
def page16 (copy : List Word) (o : Nat) : Nat := page8 copy o + 256 * page8 copy (o + 1)

/-- The 32-bit word at offset `o`, from its byte offset. -/
def page32 (copy : List Word) (o : Nat) : Word :=
  wordOf (pageByte copy o) (pageByte copy (o + 1)) (pageByte copy (o + 2)) (pageByte copy (o + 3))

/-- An entry of the window table. -/
def pageWindow (copy : List Word) (o : Nat) : Window := ⟨(page32 copy o).toNat, page16 copy (o + 4)⟩

/-- Zone entry `z` of Table 11-3. -/
def pageZone (copy : List Word) (z : Nat) : ZoneEntry :=
  let o := 0x100 + 12 * z
  ⟨page8 copy o, page8 copy (o + 1), (pageByte copy (o + 2)).getLsbD 0, page16 copy (o + 4), page16 copy (o + 6),
    page16 copy (o + 8), page16 copy (o + 10)⟩

/-- Recipe entry `r` of Table 11-3. -/
def pageRecipe (copy : List Word) (r : Nat) : RecipeEntry :=
  let o := 0x300 + 48 * r
  { valid := page8 copy o == 1
    target := (page32 copy (o + 1)).toInt
    tolerance := (page32 copy (o + 5)).toInt
    minPly := page16 copy (o + 9)
    maxPlies := page8 copy (o + 11)
    life := page16 copy (o + 12)
    activation := page16 copy (o + 14)
    doseTarget := (page32 copy (o + 16)).toNat
    maxCure := page16 copy (o + 20)
    maxGap := page16 copy (o + 22)
    stroke := page16 copy (o + 24)
    retries := page8 copy (o + 26)
    dwell := page16 copy (o + 27) }

/-- Line entry `n` of Table 11-3. -/
def pageLine (copy : List Word) (n : Nat) : LineEntry :=
  let o := 0x600 + 4 * n
  ⟨page8 copy o, page8 copy (o + 1), page8 copy (o + 2), page8 copy (o + 3)⟩

/-- The tables and settings of a fetched page. -/
def pageMap (copy : List Word) : CellMap where
  dayEnable := (pageByte copy 0x24).extractLsb' 0 4
  headEnable := (pageByte copy 0x25).extractLsb' 0 4
  modules := page8 copy 0x26
  baud := page8 copy 0x27
  settle := page8 copy 0x28
  band := page16 copy 0x2A
  ringBase := (page32 copy 0x2C).toNat
  ringCap := page16 copy 0x30
  channels := Vector.ofFn fun p => page8 copy (0x34 + p.val)
  setpointW := pageWindow copy 0x40
  imageW := pageWindow copy 0x48
  commandW := pageWindow copy 0x50
  recordW := pageWindow copy 0x58
  zones := Vector.ofFn fun z => pageZone copy z.val
  recipes := Vector.ofFn fun r => pageRecipe copy r.val
  lines := Vector.ofFn fun n => pageLine copy n.val

/-- The fetched class mask, bits 0 to 5 (R136). -/
def pageMask (copy : List Word) : BitVec 6 := (page32 copy 0x008).extractLsb' 0 6

/-- The fetched read-index word. -/
def pageReadIndex (copy : List Word) : Nat := (page32 copy 0x010).toNat

/-- The fetched write-index word. -/
def pageWriteIndex (copy : List Word) : Nat := (page32 copy 0x014).toNat

/-- The fetched last-serial word. -/
def pageLastSerial (copy : List Word) : Nat := (page32 copy 0x01C).toNat

/-- The fetched next-serial floor. -/
def pageFloor (copy : List Word) : Nat := (page32 copy 0x020).toNat

end Sys2Proof.Machine
end

