-- ==== Sys2Proof/Machine/Flags.lean ====
section
/-! DEFINITION. The codes the part shows, the Attention Unit's set, and the levels and drives that are views of
other state: line functions, HEAT ENABLE, EJECT, pins, the attention output. -/

namespace Sys2Proof.Machine

/-! ## Codes -/

/-- Table 7-2. -/
def CauseKind.code : CauseKind → Nat
  | .zoneOvertemp => 0x00
  | .zoneSensorFailed => 0x01
  | .zoneTripped => 0x02
  | .moduleAttention => 0x03
  | .moduleLost => 0x04
  | .linkOffline => 0x05
  | .setpointNotApplied => 0x06
  | .cellStop => 0x20
  | .demouldFailed => 0x21
  | .ejectorAttemptFailed => 0x22
  | .cureFault => 0x40
  | .cureInterrupted => 0x41
  | .cured => 0x42
  | .chargeSuspect => 0x60
  | .chargeRejected => 0x61
  | .headSilent => 0x62
  | .weighLineError => 0x63
  | .chargeExpired => 0x64
  | .chargeComplete => 0x65
  | .ringFull => 0x80
  | .ringIndexInvalid => 0x81
  | .linkDegraded => 0x82
  | .linkWarned => 0x83
  | .discoveryShort => 0x84
  | .moduleMismatch => 0x85
  | .commitRefused => 0xA0
  | .setpointRefused => 0xA1
  | .commandWhileBusy => 0xA2
  | .partialWrite => 0xA3
  | .writeToOwnedWindow => 0xA4
  | .commitAccepted => 0xA5

/-- The class of a cause: its kind divided by 0x20 (R129). -/
def CauseKind.cls (k : CauseKind) : Nat := k.code / 0x20

/-- Table 3-2. -/
def DayState.code : DayState → Nat
  | .vacant => 0
  | .loaded => 1
  | .curing => 2
  | .held => 3
  | .cured => 4
  | .demoulding => 5
  | .faulted => 6

/-- Table 3-3, and the completion codes of a failed demould (R61). -/
def FaultReason.code : FaultReason → Byte
  | .none => 0x00
  | .cureGap => 0x01
  | .cureTimeout => 0x02
  | .stuck => 0x80
  | .notHome => 0x81
  | .stopped => 0x82
  | .aborted => 0x83
  | .closedDuring => 0x84

/-- Table 4-4. -/
def ChargeReason.code : ChargeReason → Byte
  | .none => 0x00
  | .under => 0x01
  | .over => 0x02
  | .noPlies => 0x03
  | .plyTooHeavy => 0x10
  | .plyListFull => 0x11
  | .unexplainedRemoval => 0x12
  | .headSilent => 0x13

/-- The slot state codes of R89. -/
def ChargeState.code : ChargeState → Nat
  | .free => 0
  | .opened => 1
  | .complete => 2
  | .rejected => 3
  | .suspect => 4
  | .expired => 5

/-- Table 4-2. -/
def HeadState.code : HeadState → Nat
  | .disabled => 0
  | .unknown => 1
  | .ready => 2
  | .silent => 3

/-- Table 2-2. -/
def ReadingState.code : ReadingState → Nat
  | .absent => 0
  | .fresh => 1
  | .held => 2
  | .stale => 3
  | .failed => 4

/-- Table 11-4, link word. -/
def LinkState.code : LinkState → Nat
  | .down => 0
  | .discovering => 1
  | .running => 2
  | .degraded => 3
  | .offline => 4

/-- 11.3, module state byte. -/
def ModuleState.code : ModuleState → Nat
  | .unknown => 0
  | .present => 1
  | .mismatch => 2
  | .missing => 3
  | .lost => 4

/-- R172. -/
def CommitStage.code : CommitStage → Nat
  | .idle => 0
  | .waiting => 1
  | .fetching => 2
  | .validating => 3
  | .switching => 4
  | .stamping => 5

/-! ## The pending set (7.2) -/

/-- The place of a kind and source in the order of service (R138). -/
def causeKey (k : CauseKind) (source : Byte) : Nat := 256 * k.code + source.toNat

/-- The place of an entry in the order of service. -/
def Entry.key (e : Entry) : Nat := causeKey e.kind e.source

/-- A new entry at its place. -/
def insertEntry (e : Entry) : List Entry → List Entry
  | [] => [e]
  | x :: rest => if e.key < x.key then e :: x :: rest else x :: insertEntry e rest

/-- The set holds an entry of this kind and source. -/
def Attention.holds (a : Attention) (k : CauseKind) (source : Byte) : Bool :=
  a.set.any fun e => e.kind == k && e.source == source

/-- R132, R133: a cause offered coalesces, makes an entry, or is dropped with the overflow flag set. -/
def Attention.offer (a : Attention) (k : CauseKind) (source detail : Byte) : Attention :=
  if a.holds k source then
    { a with set := a.set.map fun e =>
        if e.kind = k ∧ e.source = source then { e with detail := detail, count := min 7 (e.count + 1) } else e }
  else if a.set.length < Config.pendingCap then { a with set := insertEntry ⟨k, source, detail, 1⟩ a.set }
  else { a with overflow := true }

/-- R134: a resolution replaces the detail of the module's entry, or is offered as a new cause. -/
def Attention.resolve (a : Attention) (p : Fin 10) (detail : Byte) : Attention :=
  if a.holds .moduleAttention (byteOf p.val) then
    { a with set := a.set.map fun e =>
        if e.kind = .moduleAttention ∧ e.source = byteOf p.val then { e with detail := detail } else e }
  else a.offer .moduleAttention (byteOf p.val) detail

/-- What the Attention Unit does with a report. -/
def Attention.take (a : Attention) : Report → Attention
  | .cause k source detail => a.offer k source detail
  | .resolution p detail => a.resolve p detail

/-- R131: every entry is deliverable but a MODULE ATTENTION whose detail is PENDING. -/
def Entry.deliverable (e : Entry) : Bool := !(e.kind == .moduleAttention && e.detail == 0)

/-- R136: a set mask bit masks its class. -/
def Attention.unmasked (a : Attention) (e : Entry) : Bool := !a.mask.getLsbD e.kind.cls

/-- The entries a read may serve. -/
def Attention.ready (a : Attention) : List Entry := a.set.filter fun e => e.deliverable && a.unmasked e

/-- R141: the attention output. -/
def Attention.output (a : Attention) : Bool := !a.ready.isEmpty

/-- The entry a read serves: lowest kind, then lowest source (R138). -/
def Attention.serves (a : Attention) : Option Entry := a.ready.head?

/-- The attention word a read returns (R138, Table 11-2). -/
def Attention.word (a : Attention) : Word :=
  let dropped : Byte := if a.overflow then 0x40 else 0
  match a.serves with
  | some e => wordOf e.detail e.source (byteOf e.kind.code) (0x80 ||| dropped ||| byteOf (8 * e.kind.cls + e.count))
  | none => wordOf 0 0 0 dropped

/-- R138: the read removes the entry it serves and clears the overflow flag. -/
def Attention.afterRead (a : Attention) : Attention :=
  match a.serves with
  | some e => { a with set := a.set.filter fun x => !(x.kind == e.kind && x.source == e.source), overflow := false }
  | none => { a with overflow := false }

/-- The pending-count word (R139). -/
def Attention.countWord (a : Attention) : Word :=
  wordOf (byteOf a.set.length) (byteOf a.ready.length) 0 0

/-! ## Offering the reports of one step (R135) -/

/-- The free place of a report among those offered together with it (log 9). -/
def Report.place (n : Nat) : Report → Nat
  | .cause k source _ => Config.reportKey n k.code source.toNat
  | .resolution p _ => Config.reportKey n CauseKind.moduleAttention.code p.val

/-- Insert behind every element of the same or a lower place. -/
def insertBy {α : Type} (place : α → Nat) (x : α) : List α → List α
  | [] => [x]
  | y :: rest => if place x < place y then x :: y :: rest else y :: insertBy place x rest

/-- The elements in the order of their places; equal places keep their order. -/
def arrange {α : Type} (place : α → Nat) (l : List α) : List α :=
  l.foldl (fun acc x => insertBy place x acc) []

/-- A report that keeps its turn behind the resolutions raised before it: a resolution (R20: those of one event in
queue order, head first; those of several events of one step in the order of the events, so LOST ones before the code
of the head: the model's choice, log 38), and COMMIT ACCEPTED, which is offered after the switch that makes them
(R142). -/
def Report.follows : Report → Bool
  | .cause k _ _ => k == .commitAccepted
  | .resolution _ _ => true

/-- The places of the reports of a step: free ones (log 9), where a report that follows stands no lower than those
before it that do (R20, R142, log 38). -/
def placeReports (n : Nat) : Nat → List Report → List (Nat × Report)
  | _, [] => []
  | low, r :: rest =>
    if r.follows then (max low (r.place n), r) :: placeReports n (max low (r.place n)) rest
    else (r.place n, r) :: placeReports n low rest

/-- The order in which the reports of a step are taken (R135). -/
def orderReports (n : Nat) (rs : List Report) : List Report := (arrange Prod.fst (placeReports n 0 rs)).map Prod.snd

/-- A block raises a cause: it joins the reports of the step. -/
def State.raise (s : State) (k : CauseKind) (source detail : Byte) : State :=
  s.setOffers (s.offers ++ [.cause k source detail])

/-- A block hands over several reports. -/
def State.report (s : State) (rs : List Report) : State := s.setOffers (s.offers ++ rs)

/-- R135: the reports of the step are taken one by one, in an order the manual leaves open but for R20 and
R142 (log 9, log 38). -/
def State.deliver (s : State) : State :=
  match s.offers with
  | [] => s
  | [r] => (s.setAtt (s.att.take r)).setOffers []
  | rs => ((s.setAtt ((orderReports s.choice rs).foldl Attention.take s.att)).setOffers []).setChoice
      (s.choice + 1)

/-! ## The map in effect (R160) -/

/-- The map in effect, or the power-on values before the first switch. -/
def MapUnit.effective (u : MapUnit) : CellMap := u.map.getD CellMap.powerOn

/-- The map in effect. -/
def State.cell (s : State) : CellMap := s.maps.effective

/-- A commit is in flight from its taking until its stamp has reached memory (R160). -/
def MapUnit.inFlight (u : MapUnit) : Bool := u.stage != .idle

/-- The fetched map, during the fetched interval (R163). -/
def MapUnit.fetched (u : MapUnit) : Option CellMap :=
  match u.stage with
  | .validating => some (pageMap u.copy)
  | .switching => some (pageMap u.copy)
  | .idle => none
  | .waiting => none
  | .fetching => none
  | .stamping => none

/-- A zone is mapped when its module position lies in 0..9 (R24). -/
def ZoneEntry.module? (e : ZoneEntry) : Option (Fin 10) := if h : e.position < 10 then some ⟨e.position, h⟩ else none

/-- R24. -/
def ZoneEntry.mapped (e : ZoneEntry) : Bool := decide (e.position < 10)

/-- The (position, channel) of a mapped zone; the channel of an unmapped zone is not used (R24, R171, log 32). -/
def ZoneEntry.wiring (e : ZoneEntry) : Option (Nat × Nat) := if e.mapped then some (e.position, e.channel) else none

/-- Zone `z` lies on a platen adjacent to daylight `d` (chapter 2). -/
def adjacent (z : Fin 40) (d : Fin 4) : Bool := z.val / 8 == d.val || z.val / 8 == d.val + 1

/-- The dose zones of daylight `d`: the mapped dose-flag zones of platens d and d+1 (R24, R44). -/
def CellMap.doseZones (m : CellMap) (d : Fin 4) : List (Fin 40) :=
  (List.finRange 40).filter fun z => adjacent z d && m.zones[z].mapped && m.zones[z].dose

/-- Line functions (Table 5-2). -/
inductive LineFunction where
  | closed (d : Fin 4) | eject (d : Fin 4) | ejected (d : Fin 4) | cellStop | heatEnable
deriving DecidableEq, Repr

/-- The daylight index of an entry, for the per-daylight functions. -/
def LineEntry.day? (e : LineEntry) : Option (Fin 4) := if h : e.daylight < 4 then some ⟨e.daylight, h⟩ else none

/-- The function of a line whose mode is FUNCTION (R91). -/
def LineEntry.function? (e : LineEntry) : Option LineFunction :=
  if e.mode ≠ 3 then none
  else match e.function with
    | 1 => e.day?.map .closed
    | 2 => e.day?.map .eject
    | 3 => e.day?.map .ejected
    | 4 => some .cellStop
    | 5 => some .heatEnable
    | _ => none

/-- The line that has a function, when one has. -/
def CellMap.lineOf (m : CellMap) (f : LineFunction) : Option (Fin 32) :=
  (List.finRange 32).find? fun n => m.lines[n].function? == some f

/-- R92: the lines that are sampled. -/
def LineEntry.sampled (e : LineEntry) : Bool :=
  e.mode == 1 || match e.function? with
    | some (.closed _) => true
    | some (.ejected _) => true
    | some .cellStop => true
    | some (.eject _) => false
    | some .heatEnable => false
    | none => false

/-- The entries of daylight `d`'s CLOSED, EJECT and EJECTED lines, with their line numbers (R168). -/
def CellMap.lineEntries (m : CellMap) (d : Fin 4) : List (Fin 32 × LineEntry) :=
  (List.finRange 32).filterMap fun n =>
    if m.lines[n].function? = some (.closed d) ∨ m.lines[n].function? = some (.eject d) ∨
      m.lines[n].function? = some (.ejected d) then some (n, m.lines[n]) else none

/-! ## Line levels and drives -/

/-- The debounced level of a function, deasserted when no line has it (R91, R108). -/
def State.level (s : State) (f : LineFunction) : Bool :=
  match s.cell.lineOf f with
  | some n => s.lines[n].level
  | none => false

/-- R13: the HEAT ENABLE drive. -/
def LinkState.heatEnable : LinkState → Bool
  | .down => false
  | .discovering => true
  | .running => true
  | .degraded => true
  | .offline => false

/-- R99: the EJECT drive of a sequencer. -/
def Sequencer.ejectDrive (q : Sequencer) : Bool := q.phase == .extending

/-- The logical level of a driven line; none for a released one (R95). -/
def State.drive (s : State) (n : Fin 32) : Option Bool :=
  let e := s.cell.lines[n]
  if e.mode = 2 then some s.lines[n].latch
  else match e.function? with
    | some (.eject d) => some s.seqs[d].ejectDrive
    | some .heatEnable => some s.link.state.heatEnable
    | some (.closed _) => none
    | some (.ejected _) => none
    | some .cellStop => none
    | none => none

/-- The level the part puts on pin `n` (high: true); none when it is released (R95). -/
def State.pinDrive (s : State) (n : Fin 32) : Option Bool :=
  (s.drive n).map fun level => level != (s.cell.lines[n].polarity == 1)

/-- R97: the image bit of line `n`. -/
def State.imageBit (s : State) (n : Fin 32) : Bool :=
  match s.drive n with
  | some level => level
  | none => s.cell.lines[n].sampled && s.lines[n].level

/-- R141: the attention output of the part. -/
def State.attentionOutput (s : State) : Bool := s.att.output

end Sys2Proof.Machine
end

