-- ==== Sys2Proof/Machine/Ops.lean ====
section
/-! DEFINITION. The shared operations: memory, the injection queue, completion stamps, the open record, the
backlog and the appender. Every block that uses one calls it here. -/

namespace Sys2Proof.Machine

/-! ## Memory at the memory port -/

/-- The byte at an address. -/
def readByte : Memory → Nat → Byte
  | [], _ => Config.unwritten
  | (x, b) :: rest, a => if x = a then b else readByte rest a

/-- Write one byte, keeping the canonical form. -/
def writeByte : Memory → Nat → Byte → Memory
  | [], a, v => if v = Config.unwritten then [] else [(a, v)]
  | (x, b) :: rest, a, v =>
    if a < x then (if v = Config.unwritten then (x, b) :: rest else (a, v) :: (x, b) :: rest)
    else if a = x then (if v = Config.unwritten then rest else (a, v) :: rest)
    else (x, b) :: writeByte rest a v

/-- Every listed address lies above `a`, in rising order, and no listed byte reads as an unlisted one does. -/
def wfAbove : Nat → Memory → Bool
  | _, [] => true
  | a, (x, b) :: rest => decide (a < x) && b != Config.unwritten && wfAbove x rest

/-- The canonical form of a memory. -/
def Memory.wf : Memory → Bool
  | [] => true
  | (x, b) :: rest => b != Config.unwritten && wfAbove x rest

/-- The address of byte 0 of the word an access names; the port has address lines 23..2 (Table 0-6). -/
def wordBase (a : Addr) : Nat := a.toNat / 4 * 4

/-- The word at a byte address. -/
def readWord (m : Memory) (base : Nat) : Word :=
  wordOf (readByte m base) (readByte m (base + 1)) (readByte m (base + 2)) (readByte m (base + 3))

/-- Write one byte of a word when its enable is set. -/
def writeEnabled (m : Memory) (base : Nat) (enables : Enables) (data : Word) (i : Nat) : Memory :=
  if enables.getLsbD i then writeByte m (base + i) (wordByte data i) else m

/-- Write the enabled bytes of a word (00_scope.md, Byte order). -/
def writeWord (m : Memory) (base : Nat) (enables : Enables) (data : Word) : Memory :=
  [0, 1, 2, 3].foldl (fun acc i => writeEnabled acc base enables data i) m

/-! ## One element of a table -/

def State.setDay (s : State) (d : Fin 4) (x : Daylight) : State := s.setDays (s.days.set d x)
def State.setSeq (s : State) (d : Fin 4) (x : Sequencer) : State := s.setSeqs (s.seqs.set d x)
def State.setLine (s : State) (n : Fin 32) (x : Line) : State := s.setLines (s.lines.set n x)
def State.setZone (s : State) (z : Fin 40) (x : Zone) : State := s.setZones (s.zones.set z x)
def State.setChan (s : State) (c : Fin 10) (x : Channel) : State := s.setChans (s.chans.set c x)
def State.setHead (s : State) (h : Fin 4) (x : Head) : State :=
  s.setWeigh { s.weigh with heads := s.weigh.heads.set h x }
def State.setCharge (s : State) (i : Fin 6) (x : ChargeSlot) : State :=
  s.setWeigh { s.weigh with charges := s.weigh.charges.set i x }

/-! ## The injection queue (R154) -/

/-- Table of R154: which producer an injected write comes from. -/
def Purpose.producer : Purpose → Producer
  | .recordWord => .history
  | .indexWord => .history
  | .lastSerial => .history
  | .stamp _ => .command
  | .commitStamp => .map
  | .indexZero => .map

/-- R154: place a write. It waits behind its producer's waiting writes, or enters the queue when that has
room, or waits as one that found the queue full (log 13). -/
def Passage.place (p : Passage) (e : QEntry) : Passage :=
  if p.waiting.any (fun w => w.1 == e.purpose.producer) then
    { p with waiting := p.waiting.map fun w => if w.1 = e.purpose.producer then (w.1, w.2 ++ [e]) else w }
  else if p.queue.length < Config.queueCap then { p with queue := p.queue ++ [e] }
  else { p with waiting := p.waiting ++ [(e.purpose.producer, [e])] }

/-- Place several writes of one producer, one by one. -/
def Passage.placeAll (p : Passage) (es : List QEntry) : Passage := es.foldl Passage.place p

/-- R154: a free place goes to the waiting write that found the queue full earliest. The producer's next
write then finds the queue full in its turn (log 13). -/
def Passage.fill (p : Passage) : Passage :=
  if p.queue.length < Config.queueCap then
    match p.waiting with
    | [] => p
    | (_, []) :: rest => { p with waiting := rest }
    | (_, [e]) :: rest => { p with queue := p.queue ++ [e], waiting := rest }
    | (producer, e :: e' :: es) :: rest =>
      { p with queue := p.queue ++ [e], waiting := rest ++ [(producer, e' :: es)] }
  else p

/-- Place a write in the injection queue. -/
def State.inject (s : State) (e : QEntry) : State := s.setPass (s.pass.place e)

/-- Place several writes in order. -/
def State.injectAll (s : State) (es : List QEntry) : State := s.setPass (s.pass.placeAll es)

/-- A word of the map page. -/
def mapAddr (offset : Nat) : Addr := BitVec.ofNat 24 (Config.mapPage + offset)

/-! ## Completions (R178) -/

/-- R178: place the stamp of a channel whose completion is known and whose command has reached memory. -/
def State.placeStamp (s : State) (c : Fin 10) : State :=
  let ch := s.chans[c]
  match ch.stamp, ch.completion with
  | some w, some code =>
    if ch.phase = .stamping ∧ ch.written = true ∧ ch.placed = false then
      (s.setChan c { ch with placed := true }).inject ⟨w.addr, wordOf w.code w.tag w.argument code, .stamp c⟩
    else s
  | _, _ => s

/-- R178: the owner hands over the completion of a running command. -/
def State.finish (s : State) (c : Fin 10) (code : Byte) : State :=
  if s.chans[c].phase = .running then s.setChan c { s.chans[c] with phase := .stamping, completion := some code }
  else s

/-- Hand over a completion and place its stamp as soon as it may be placed. -/
def State.complete (s : State) (c : Fin 10) (code : Byte) : State := (s.finish c code).placeStamp c

/-- The channel of daylight `d`. -/
def dayChannel (d : Fin 4) : Fin 10 := ⟨d.val, by omega⟩

/-- The channel of the heat link. -/
def linkChannel : Fin 10 := 8

/-! ## The open record (6.1) -/

/-- R111: seconds since LOAD. -/
def secondsSince (now load : Time) : Nat := min 65535 ((now - load).toNat / 1000)

/-- R111: store a change entry, or count it as lost. -/
def OpenRecord.change (r : OpenRecord) (now : Time) (target : Nat) (old : Option Nat) (new : Nat) : OpenRecord :=
  if r.changes.length < 4 then { r with changes := r.changes ++ [⟨target, old, new, secondsSince now r.loadTime⟩] }
  else { r with lost := min 255 (r.lost + 1) }

/-- R34, R36: hand a change entry to the open record of each daylight adjacent to zone `z`'s platen. -/
def State.noteChange (s : State) (z : Fin 40) (target : Nat) (old : Option Nat) (new : Nat) : State :=
  s.setDays (Vector.ofFn fun d =>
    if adjacent z d then { s.days[d] with record := s.days[d].record.map fun r => r.change s.time target old new }
    else s.days[d])

/-- A change entry as stored (11.4). -/
def ChangeEntry.bytes (e : ChangeEntry) : List Byte :=
  [byteOf e.target, if e.old.isSome then 1 else 0] ++ bytes16 (e.old.getD 0) ++ bytes16 e.new ++ bytes16 e.seconds

/-- The warning flags of Table 11-5. -/
def OpenRecord.flags (r : OpenRecord) : Nat :=
  (if r.overtemp then 1 else 0) + (if r.degraded then 2 else 0) + (if r.notApplied then 4 else 0)

/-- Outcomes of a record (R62). -/
inductive RecordOutcome where
  | released | manual | scrapped
deriving DecidableEq, Repr

/-- R62. -/
def RecordOutcome.code : RecordOutcome → Byte
  | .released => 1
  | .manual => 2
  | .scrapped => 3

/-- Bytes 0 to 125 of a record closed by daylight `d` (Table 11-5, R62). -/
def recordBody (d : Fin 4) (c : Daylight) (r : OpenRecord) (outcome : RecordOutcome) (now : Time)
    (generation : BitVec 16) : List Byte :=
  [1, outcome.code, byteOf d.val, byteOf c.recipe.index]
    ++ bytes32 (BitVec.ofNat 32 c.serial)
    ++ bytes16 c.chargeId ++ [byteOf r.head.val, byteOf r.plies.length]
    ++ bytes32 (BitVec.ofInt 32 r.total)
    ++ bytes32 r.loadTime ++ bytes32 (fieldTime r.cureStart) ++ bytes32 (fieldTime r.curedTime) ++ bytes32 now
    ++ bytes32 (BitVec.ofNat 32 c.dose) ++ bytes32 (BitVec.ofNat 32 c.recipe.doseTarget)
    ++ bytes16 (field16 c.minTemp) ++ bytes16 (field16 c.maxTemp)
    ++ bytes16 c.totalGap ++ [byteOf c.interruptions, byteOf c.attempts, c.fault.code]
    ++ [byteOf r.changes.length, byteOf r.lost, byteOf r.flags]
    ++ (List.range 20).flatMap (fun k => bytes16 (r.plies.getD k 0))
    ++ (List.range 4).flatMap (fun j => ((r.changes[j]?).map ChangeEntry.bytes).getD (List.replicate 8 0))
    ++ bytes16 generation.toNat

/-- The 128 bytes of a closed record (R115). -/
def recordBytes (d : Fin 4) (c : Daylight) (r : OpenRecord) (outcome : RecordOutcome) (now : Time)
    (generation : BitVec 16) : List Byte :=
  recordBody d c r outcome now generation ++ crcBytes (recordBody d c r outcome now generation)

/-! ## The backlog and the appender (6.2 to 6.4) -/

/-- The next of `n` positions used in turn. -/
def nextPosition (i : Fin 4) : Fin 4 := i + 1

/-- R114: a reservation is granted while occupied and reserved together are below 4. -/
def History.mayReserve (h : History) : Bool := decide (h.occupied + h.reserved < Config.backlogCap)

/-- R116: the ring is full when the write index plus 1, modulo capacity, is the read index. -/
def Ring.full (r : Ring) (write : Nat) : Bool := (write + 1) % r.cap == r.read

/-- R119: the writes of an append of a record to slot `w`. -/
def appendWrites (r : Ring) (w : Nat) (record : List Byte) : List QEntry :=
  (List.range 32).map (fun i =>
      ⟨BitVec.ofNat 24 (r.base + 128 * w + 4 * i), word32 record (4 * i), Purpose.recordWord⟩)
    ++ [⟨mapAddr 0x014, BitVec.ofNat 32 ((w + 1) % r.cap), Purpose.indexWord⟩]

/-- R118: the conditions of the append test but the last. -/
def State.mayAppend (s : State) : Bool :=
  decide (1 ≤ s.hist.occupied) && s.hist.append.isNone && s.pass.mapped && s.maps.stage != .switching

/-- R118, R120: apply the append test; the append begins, or a ring-full episode begins. -/
def State.appendTest (s : State) : State :=
  match s.hist.ring with
  | none => s
  | some r =>
    if s.mayAppend then
      if r.full s.hist.write then
        if s.hist.ringFull then s
        else (s.setHist { s.hist with ringFull := true }).raise .ringFull 0 (byteOf s.hist.occupied)
      else
        (s.setHist { s.hist with append := some s.hist.write, ringFull := false }).injectAll
          (appendWrites r s.hist.write s.hist.backlog[s.hist.oldest])
    else s

/-- R62, R115: close the open record of daylight `d` against a reservation, with the context's fault reason and
demould attempts; the daylight becomes VACANT and the append test is applied. -/
def State.closeRecord (s : State) (d : Fin 4) (outcome : RecordOutcome) : State :=
  match s.days[d].record with
  | none => s
  | some r =>
    ((s.setHist { s.hist with
          backlog := s.hist.backlog.set s.hist.fill
            (recordBytes d s.days[d] r outcome s.time s.maps.generation)
          fill := nextPosition s.hist.fill
          occupied := s.hist.occupied + 1
          reserved := s.hist.reserved - 1 }).setDay d
      { s.days[d] with state := .vacant, record := none, reserved := false }).appendTest

/-- The end of a step: the reports of the step are taken (R135), and the step answers the next state. -/
def State.done (s : State) : Host.Outcome State Fault Refusal := .next s.deliver

/-- R58, R63, R64: grant a reservation. -/
def State.reserve (s : State) : State := s.setHist { s.hist with reserved := s.hist.reserved + 1 }

/-- R61: release a reservation. -/
def State.release (s : State) : State := s.setHist { s.hist with reserved := s.hist.reserved - 1 }

end Sys2Proof.Machine
end

