-- ==== Sys2Proof/Machine/Daylights.lean ====
section
/-! DEFINITION. The Daylight Unit (chapter 3): the dose step, the press closing and opening, and what a daylight
does with the report of its demould sequence. -/

namespace Sys2Proof.Machine

/-- Greatest value of a 32-bit saturating count. -/
def max32 : Nat := 0xFFFFFFFF

/-- The reading a zone supplies to the dose step: FRESH or HELD only (R27, R51). -/
def Zone.trusted (z : Zone) : Option Nat :=
  match z.rstate with
  | .fresh => z.reading
  | .held => z.reading
  | .absent => none
  | .stale => none
  | .failed => none

/-- The readings of all zones, when every one is trusted and there is one at least (R51; no dose zone: log 20). -/
def trustedReadings (zones : List Zone) : Option (List Nat) :=
  if zones.isEmpty then none
  else if zones.all fun z => z.trusted.isSome then some (zones.filterMap Zone.trusted)
  else none

/-- The lowest of several readings. -/
def lowest (l : List Nat) : Nat := l.foldl min (l.headD 0)

/-- The highest of several readings. -/
def highest (l : List Nat) : Nat := l.foldl max (l.headD 0)

/-- R52: a temperature sweep with lowest reading `tmin` and highest `tmax`. -/
def Daylight.temperatureSweep (c : Daylight) (tmin tmax : Nat) : Daylight :=
  { c with
    dose := min max32 (c.dose + (tmin - c.recipe.activation))
    minTemp := some (match c.minTemp with | some t => min t tmin | none => tmin)
    maxTemp := some (match c.maxTemp with | some t => max t tmax | none => tmax)
    gap := 0 }

/-- R53: a gap sweep. -/
def Daylight.gapSweep (c : Daylight) : Daylight :=
  { c with gap := min 65535 (c.gap + 1), totalGap := min 65535 (c.totalGap + 1) }

/-- R52, R53: the sweep's handling by its kind. -/
def Daylight.sweep (c : Daylight) (readings : Option (List Nat)) : Daylight :=
  match readings with
  | some l => c.temperatureSweep (lowest l) (highest l)
  | none => c.gapSweep

/-- R55: a daylight that becomes CURED at `now`. -/
def Daylight.toCured (c : Daylight) (now : Time) : Daylight :=
  { c with state := .cured, record := c.record.map fun r => { r with curedTime := some now } }

/-- R56: a daylight faulted by the dose step. -/
def Daylight.toFaulted (c : Daylight) (reason : FaultReason) : Daylight :=
  { c with state := .faulted, fault := reason }

/-- R54: what becomes of a CURING daylight after the sweep's handling; `gapKind` for a gap sweep. -/
def Daylight.judge (c : Daylight) (gapKind : Bool) (now : Time) : Daylight :=
  let y : Daylight := { c with sweeps := min max32 (c.sweeps + 1) }
  if y.recipe.doseTarget ≤ y.dose then y.toCured now
  else if gapKind = true ∧ y.recipe.maxGap < y.gap then y.toFaulted .cureGap
  else if y.recipe.maxCure * 100 ≤ y.sweeps then y.toFaulted .cureTimeout
  else y

/-- R51: the dose step of one daylight; `closed` is its CLOSED level. -/
def Daylight.doseStep (c : Daylight) (closed : Bool) (readings : Option (List Nat)) (now : Time) : Daylight :=
  match c.state with
  | .curing => (c.sweep readings).judge readings.isNone now
  | .cured => if closed then c.sweep readings else c
  | .vacant => c
  | .loaded => c
  | .held => c
  | .demoulding => c
  | .faulted => c

/-- The causes of a dose step: CURED (R55) or CURE FAULT (R56). -/
def doseCauses (d : Fin 4) (before after : Daylight) : List Report :=
  match before.state, after.state with
  | .curing, .cured => [.cause .cured (byteOf d.val) 0]
  | .curing, .faulted => [.cause .cureFault (byteOf d.val) after.fault.code]
  | _, _ => []

/-- R113: the mark of a sweep end whose link state is DEGRADED or OFFLINE. -/
def Daylight.markDegraded (c : Daylight) (l : LinkState) : Daylight :=
  if l = .degraded ∨ l = .offline then
    { c with record := c.record.map fun r => { r with degraded := true } }
  else c

/-- The readings the dose zones of daylight `d` supply. -/
def State.doseReadings (s : State) (d : Fin 4) : Option (List Nat) :=
  trustedReadings ((s.cell.doseZones d).map fun z => s.zones[z])

/-- A daylight after a sweep end (R51 to R56, R113). -/
def State.dayAfterSweep (s : State) (d : Fin 4) : Daylight :=
  (s.days[d].doseStep (s.level (.closed d)) (s.doseReadings d) s.time).markDegraded s.link.state

/-- R51 to R56, R113: the Daylight Unit at a sweep end. -/
def State.daylightUnit (s : State) : State :=
  (s.setDays (Vector.ofFn fun d => s.dayAfterSweep d)).report
    ((List.finRange 4).flatMap fun d => doseCauses d s.days[d] (s.dayAfterSweep d))

/-! ## The press closing and opening (3.4) -/

/-- R49: CLOSED of daylight `d` asserts. -/
def State.pressCloses (s : State) (d : Fin 4) : State :=
  match s.days[d].state with
  | .loaded => s.setDay d { s.days[d] with
      state := .curing
      record := s.days[d].record.map fun r => { r with cureStart := some s.time } }
  | .held => s.setDay d { s.days[d] with state := .curing }
  | .cured => s
  | .demoulding => s
  | .vacant => s
  | .curing => s
  | .faulted => s

/-- R50: CLOSED of daylight `d` deasserts. -/
def State.pressOpens (s : State) (d : Fin 4) : State :=
  match s.days[d].state with
  | .curing =>
    let n := min 255 (s.days[d].interruptions + 1)
    (s.setDay d { s.days[d] with state := .held, interruptions := n }).raise .cureInterrupted (byteOf d.val) (byteOf n)
  | .cured => s
  | .loaded => s
  | .held => s
  | .demoulding => s
  | .faulted => s
  | .vacant => s

/-! ## The report of a demould sequence (R60, R61) -/

/-- R60: success with a number of attempts. The completion's stamp enters the queue ahead of or behind the
record words the close places: free (log 11). -/
def State.demouldSucceeds (s : State) (d : Fin 4) (attempts : Nat) : State :=
  let s1 := (s.setDay d { s.days[d] with attempts := attempts, fault := .none }).finish (dayChannel d) 0x02
  if Config.stampAhead s.choice then
    ((s1.placeStamp (dayChannel d)).closeRecord d .released).setChoice (s.choice + 1)
  else ((s1.closeRecord d .released).placeStamp (dayChannel d)).setChoice (s.choice + 1)

/-- R61: failure with a reason and a number of attempts. -/
def State.demouldFails (s : State) (d : Fin 4) (reason : FaultReason) (attempts : Nat) : State :=
  (((s.setDay d { s.days[d] with
      state := .faulted, fault := reason, attempts := attempts, reserved := false }).release).raise
    .demouldFailed (byteOf d.val) reason.code).complete (dayChannel d) reason.code

end Sys2Proof.Machine
end

