-- ==== Sys2Proof/Machine/Lines.lean ====
section
/-! DEFINITION. The Demould Sequencer and the Line Unit (chapter 5): the phases of a stroke, the stop events,
sampling, debouncing and the reports of debounced changes. -/

namespace Sys2Proof.Machine

/-! ## The phases (R100 to R106) -/

/-- The cell time at which a timer started now with `ms` milliseconds runs out (R98). -/
def State.after (s : State) (ms : Nat) : Time := s.time + BitVec.ofNat 32 ms

/-- The timer has run out by cell time `now` (log 27). -/
def Sequencer.ranOut (q : Sequencer) (now : Time) : Bool :=
  match q.expiry with
  | some t => decide ((now - t).toNat < 2 ^ 31)
  | none => false

/-- R105: a context at its end. -/
def Sequencer.ended (q : Sequencer) : Sequencer := { q with phase := .idle, expiry := none }

/-- R105: the sequence of daylight `d` ends with success. -/
def State.strokeSucceeds (s : State) (d : Fin 4) : State :=
  (s.setSeq d s.seqs[d].ended).demouldSucceeds d s.seqs[d].attempts

/-- R105: the sequence of daylight `d` ends with failure. -/
def State.strokeFails (s : State) (d : Fin 4) (reason : FaultReason) : State :=
  (s.setSeq d s.seqs[d].ended).demouldFails d reason s.seqs[d].attempts

/-- R101: entry to EXTENDING. -/
def State.enterExtending (s : State) (d : Fin 4) : State :=
  s.setSeq d { s.seqs[d] with
    phase := .extending
    attempts := s.seqs[d].attempts + 1
    last := .none
    expiry := some (s.after s.seqs[d].stroke) }

/-- R104: the dwell of daylight `d` is over. -/
def State.dwellOver (s : State) (d : Fin 4) : State :=
  if s.level (.ejected d) then s.strokeFails d .notHome else s.enterExtending d

/-- R104: entry to DWELL; a dwell of 0 is over at its entry. -/
def State.enterDwell (s : State) (d : Fin 4) : State :=
  let s1 := s.setSeq d { s.seqs[d] with phase := .dwell, expiry := some (s.after s.seqs[d].dwell) }
  if s.seqs[d].dwell = 0 then s1.dwellOver d else s1

/-- R102: the retraction completes. A retraction follows a CONFIRMED or a FAILED stroke (log 21). -/
def State.retractionComplete (s : State) (d : Fin 4) : State :=
  match s.seqs[d].last with
  | .confirmed => s.strokeSucceeds d
  | .failed => if s.seqs[d].attempts < 1 + s.seqs[d].retries then s.enterDwell d else s.strokeFails d .stuck
  | .none => if s.seqs[d].attempts < 1 + s.seqs[d].retries then s.enterDwell d else s.strokeFails d .stuck

/-- R102: entry to RETRACTING; it completes at once when EJECTED is already deasserted. -/
def State.enterRetracting (s : State) (d : Fin 4) (last : Stroke) : State :=
  let s1 := s.setSeq d { s.seqs[d] with
    phase := .retracting, last := last, expiry := some (s.after s.seqs[d].stroke) }
  if s.level (.ejected d) then s1 else s1.retractionComplete d

/-- The failure reason of a stop reason (R103). -/
def StopReason.fault : StopReason → FaultReason
  | .none => .none
  | .stopped => .stopped
  | .closedDuring => .closedDuring
  | .aborted => .aborted

/-- R104: entry to FINAL RETRACT; it completes at once when EJECTED is already deasserted. -/
def State.enterFinalRetract (s : State) (d : Fin 4) : State :=
  let s1 := s.setSeq d { s.seqs[d] with phase := .finalRetract, expiry := some (s.after s.seqs[d].stroke) }
  if s.level (.ejected d) then s1 else s1.strokeFails d s.seqs[d].stop.fault

/-- R103: the phases in which a stop event stops a sequence. -/
def Phase.stoppable : Phase → Bool
  | .idle => false
  | .extending => true
  | .retracting => true
  | .dwell => true
  | .finalRetract => false

/-- R103: a stop event of a kind reaches the sequencer of daylight `d`. -/
def State.stopEvent (s : State) (d : Fin 4) (reason : StopReason) : State :=
  if s.seqs[d].phase.stoppable then
    (s.setSeq d { s.seqs[d] with stop := if s.seqs[d].stop = .none then reason else s.seqs[d].stop }).enterFinalRetract d
  else s

/-- R106: ABORT reaches the sequencer; after a CONFIRMED stroke there is none left to abort. -/
def State.abortStroke (s : State) (d : Fin 4) : State :=
  if s.seqs[d].phase = .retracting ∧ s.seqs[d].last = .confirmed then s else s.stopEvent d .aborted

/-- R100: the sequence of daylight `d` starts with the parameters of its recipe snapshot. -/
def State.startStroke (s : State) (d : Fin 4) : State :=
  (s.setSeq d { s.seqs[d] with
    stroke := s.days[d].recipe.stroke
    retries := s.days[d].recipe.retries
    dwell := s.days[d].recipe.dwell
    attempts := 0
    last := .none
    stop := .none }).enterExtending d

/-- R101, R102, R104: EJECTED of daylight `d` asserts. -/
def State.ejectedAsserts (s : State) (d : Fin 4) : State :=
  match s.seqs[d].phase with
  | .extending => s.enterRetracting d .confirmed
  | .idle => s
  | .retracting => s
  | .dwell => s
  | .finalRetract => s

/-- R101, R102, R104: EJECTED of daylight `d` deasserts. -/
def State.ejectedDeasserts (s : State) (d : Fin 4) : State :=
  match s.seqs[d].phase with
  | .retracting => s.retractionComplete d
  | .finalRetract => s.strokeFails d s.seqs[d].stop.fault
  | .idle => s
  | .extending => s
  | .dwell => s

/-! ## CELL STOP (R94) -/

/-- The daylights a CELL STOP assertion stops (R94): those in EXTENDING, RETRACTING or DWELL without a reason. -/
def State.stoppedByCellStop (s : State) (d : Fin 4) : Bool :=
  s.seqs[d].phase.stoppable && s.seqs[d].stop == .none

/-- The detail of the CELL STOP cause: bit d for daylight d. -/
def State.cellStopDetail (s : State) : Byte :=
  byteOf (((List.finRange 4).filter s.stoppedByCellStop).map fun d => 2 ^ d.val).sum

/-- R93, R94, R103: CELL STOP asserts; every sequencer takes it for itself. They take it in daylight order, 0 first,
which orders the stamps of strokes that end at once: the model's choice (log 37). -/
def State.cellStopAsserts (s : State) : State :=
  ((List.finRange 4).foldl (fun acc d => acc.stopEvent d .stopped) s).raise .cellStop 0 s.cellStopDetail

/-! ## Sampling (R92, R93) -/

/-- The logical level of a sample (R91, R92). -/
def LineEntry.logical (e : LineEntry) (pin : Bool) : Bool := pin != (e.polarity == 1)

/-- The line's sample differs from its debounced level. -/
def State.differs (s : State) (pins : BitVec 32) (n : Fin 32) : Bool :=
  s.cell.lines[n].sampled && s.cell.lines[n].logical (pins.getLsbD n.val) != s.lines[n].level

/-- R92: the lines whose debounced level changes at this sample: a fifth differing sample. -/
def State.changing (s : State) (pins : BitVec 32) : List (Fin 32) :=
  (List.finRange 32).filter fun n => s.differs pins n && decide (4 ≤ s.lines[n].run)

/-- R92: the run count of a line after a sample. -/
def State.runAfter (s : State) (pins : BitVec 32) (n : Fin 32) : Nat :=
  if s.differs pins n then (if 4 ≤ s.lines[n].run then 0 else s.lines[n].run + 1)
  else if s.cell.lines[n].sampled then 0
  else s.lines[n].run

/-- R93: a debounced change is reported by the line's function. -/
def State.reportChange (s : State) (f : Option LineFunction) (asserted : Bool) : State :=
  match f with
  | some (.closed d) => if asserted then (s.pressCloses d).stopEvent d .closedDuring else s.pressOpens d
  | some (.ejected d) => if asserted then s.ejectedAsserts d else s.ejectedDeasserts d
  | some .cellStop => if asserted then s.cellStopAsserts else s
  | some (.eject _) => s
  | some .heatEnable => s
  | none => s

/-- R92, R93: the debounced level of line `n` takes its new value, and the change is reported. -/
def State.changeLine (s : State) (n : Fin 32) : State :=
  (s.setLine n { s.lines[n] with level := !s.lines[n].level }).reportChange s.cell.lines[n].function?
    (!s.lines[n].level)

/-- The changing lines in the order they are taken: free where two change at one sample (log 10). -/
def State.changeOrder (s : State) (pins : BitVec 32) : List (Fin 32) :=
  arrange (fun n => Config.lineKey s.choice n.val) (s.changing pins)

/-- R92, R93: one sample of all lines: the run counts move, then each changing line is taken in turn. -/
def State.sampleLines (s : State) (pins : BitVec 32) : State :=
  let s1 := s.setLines (Vector.ofFn fun n => { s.lines[n] with run := s.runAfter pins n })
  let s2 := (s.changeOrder pins).foldl State.changeLine s1
  if 2 ≤ (s.changing pins).length then s2.setChoice (s2.choice + 1) else s2

/-! ## The switch of a commit (R108) -/

/-- R108: a line at the switch from entry `old` to entry `new`. A line no longer sampled keeps no run (log 28). -/
def Line.switch (l : Line) (old new : LineEntry) : Line :=
  if old = new then l
  else if new.sampled then { l with level := false, run := 0 }
  else { l with run := 0 }

end Sys2Proof.Machine
end

