-- ==== Sys2Proof/Machine/Weighing.lean ====
section
/-! DEFINITION. The Weigh Channel (chapter 4): the poller, the head contexts, ply capture, the charge slots and
their expiry. -/

namespace Sys2Proof.Machine

/-! ## Charges -/

/-- R83: the charge of head `h` in slot `i` becomes SUSPECT. -/
def State.suspectCharge (s : State) (h : Fin 4) (i : Fin 6) (reason : ChargeReason) : State :=
  ((s.setCharge i { s.weigh.charges[i] with state := .suspect, reason := reason, completed := s.time }).setHead h
    { s.weigh.heads[h] with held := none }).raise .chargeSuspect (byteOf i.val) reason.code

/-- The lowest weight of a window. -/
def windowLow (l : List Int) : Int := l.foldl min (l.headD 0)

/-- The highest weight of a window. -/
def windowHigh (l : List Int) : Int := l.foldl max (l.headD 0)

/-- R76: the settled weight of a window, when it holds `n` weights within `band`; the mean is rounded toward zero. -/
def settledWeight (window : List Int) (n band : Nat) : Option Int :=
  if window.length = n ∧ window ≠ [] ∧ windowHigh window - windowLow window ≤ (band : Int) then
    some (window.sum.tdiv (n : Int))
  else none

/-- R76: the settled weight of head `h`; only a READY head can be settled (log 31). -/
def State.settled (s : State) (h : Fin 4) : Option Int :=
  if s.weigh.heads[h].state = .ready then settledWeight s.weigh.heads[h].window s.cell.settle s.cell.band else none

/-- R81: a ply of mass `diff` at settled weight `weight`. -/
def ChargeSlot.addPly (c : ChargeSlot) (diff weight : Int) : ChargeSlot :=
  { c with plies := c.plies ++ [diff.toNat], total := c.total + diff, reference := weight }

/-- R82: the last ply removed at settled weight `weight`. -/
def ChargeSlot.dropPly (c : ChargeSlot) (weight : Int) : ChargeSlot :=
  { c with plies := c.plies.dropLast, total := c.total - (c.plies.getLastD 0 : Nat), reference := weight }

/-- R82: the removed mass matches the last ply within the settle band. -/
def ChargeSlot.matchesLast (c : ChargeSlot) (removed : Int) (band : Nat) : Bool :=
  match c.plies.getLast? with
  | none => false
  | some p => decide ((removed - (p : Int)).natAbs ≤ band)

/-- R81, R82: a settled weight offered to the OPEN charge of head `h` in slot `i`. -/
def State.capture (s : State) (h : Fin 4) (i : Fin 6) (weight : Int) : State :=
  let c := s.weigh.charges[i]
  let diff := weight - c.reference
  let least : Int := c.recipe.entry.minPly
  if least ≤ diff then
    if 65535 < diff then s.suspectCharge h i .plyTooHeavy
    else if c.recipe.entry.maxPlies ≤ c.plies.length then s.suspectCharge h i .plyListFull
    else s.setCharge i (c.addPly diff weight)
  else if diff ≤ -least then
    if c.matchesLast (-diff) s.cell.band then s.setCharge i (c.dropPly weight)
    else s.suspectCharge h i .unexplainedRemoval
  else s

/-! ## Heads -/

/-- R74: the head's context after a miss. -/
def Head.miss (x : Head) : Head :=
  let n := min Config.silentAt (x.misses + 1)
  let silenced := decide (n = Config.silentAt) && (x.state == .unknown || x.state == .ready)
  { x with window := [], misses := n, state := if silenced then .silent else x.state }

/-- R74: the miss makes the head SILENT. -/
def Head.fallsSilent (x : Head) : Bool :=
  decide (Config.silentAt ≤ x.misses + 1) && (x.state == .unknown || x.state == .ready)

/-- R74: a miss of head `h`. -/
def State.headMiss (s : State) (h : Fin 4) : State :=
  let x := s.weigh.heads[h]
  let s1 := s.setHead h x.miss
  if x.fallsSilent then
    let s2 := s1.raise .headSilent (byteOf h.val) 0
    match x.held with
    | some i => s2.suspectCharge h i .headSilent
    | none => s2
  else s1

/-- R74, R75: the head's context after a valid answer; `n` is the settle count in effect. -/
def Head.answer (x : Head) (a : Answer) (n : Nat) : Head :=
  { x with
    misses := 0
    state := if x.state = .unknown ∨ x.state = .silent then .ready else x.state
    last := some a
    window :=
      if a.flags ≠ 0 then []
      else (if n ≤ x.window.length then x.window.tail else x.window) ++ [a.weight] }

/-- R74, R75, R81: a valid answer of head `h`. -/
def State.headAnswer (s : State) (h : Fin 4) (a : Answer) : State :=
  let s1 := s.setHead h (s.weigh.heads[h].answer a s.cell.settle)
  match s1.settled h, s1.weigh.heads[h].held with
  | some weight, some i => s1.capture h i weight
  | _, _ => s1

/-- R72: an answer to head `h` is discarded: WEIGH LINE ERROR, the error count, and a miss. -/
def State.discardAnswer (s : State) (h : Fin 4) (kind : Byte) : State :=
  ((s.setHead h { s.weigh.heads[h] with errors := min 65535 (s.weigh.heads[h].errors + 1) }).raise
    .weighLineError (byteOf h.val) kind).headMiss h

/-! ## The poller (R69 to R72) -/

/-- The heads enabled in the map in effect. -/
def CellMap.enabledHeads (m : CellMap) : List (Fin 4) := (List.finRange 4).filter fun h => m.headEnable.getLsbD h.val

/-- R69: the head the next slot is given to. -/
def nextHead (enabled : List (Fin 4)) (last : Option (Fin 4)) : Option (Fin 4) :=
  match last with
  | none => enabled.head?
  | some p => ((enabled.filter fun h => decide (p.val < h.val)) ++ enabled).head?

/-- The slot's answer wait is over: no buffer to evaluate, and the poller receives nothing until the next poll. -/
def State.closeSlot (s : State) : State := s.setWeigh { s.weigh with slot := none }

/-- R70: no answer began in the slot: a miss, unless the slot's result is discarded (R69). -/
def State.noAnswer (s : State) : State :=
  match s.weigh.slot with
  | none => s
  | some p => if p.discard then s.closeSlot else s.closeSlot.headMiss p.head

/-- R70: the poll of the next enabled head. A slot whose answer wait is still open has had no answer (log 17). -/
def State.startSlot (s : State) : State :=
  let s1 := s.noAnswer
  match nextHead s1.cell.enabledHeads s1.weigh.lastPolled with
  | none => s1
  | some h => s1.setWeigh { s1.weigh with
      lastPolled := some h, slot := some ⟨h, pollFrame h, false⟩, buffer := [], overlong := false }

/-- R70, R71: the receive buffer at the end of an answer. Reception of the slot ends with its first answer, the
model's choice (log 33). -/
def State.receiveAnswer (s : State) (chars : List RxChar) : State :=
  s.setWeigh { s.weigh with
    slot := none, buffer := chars.take Config.rxCap, overlong := decide (Config.rxCap < chars.length) }

/-- R71, R72: the end of an answer in the slot in progress. -/
def State.endAnswer (s : State) (chars : List RxChar) : State :=
  match s.weigh.slot with
  | none => s
  | some p =>
    let s1 := s.receiveAnswer chars
    if p.discard then s1
    else match evaluateAnswer p.head chars with
      | .ok a => s1.headAnswer p.head a
      | .error kind => s1.discardAnswer p.head kind

/-- R74: the slot in progress ends, with the answer given or without one, in a miss that makes head `h` SILENT. -/
def State.silenceDue (s : State) (h : Fin 4) (answer : Option (List RxChar)) : Bool :=
  match s.weigh.slot with
  | none => false
  | some p => p.head == h && !p.discard && s.weigh.heads[h].fallsSilent && match answer with
    | none => true
    | some chars => match evaluateAnswer h chars with
      | .ok _ => false
      | .error _ => true

/-! ## Expiry (R85) -/

/-- R85: the charge's age has reached its life. -/
def ChargeSlot.outlived (c : ChargeSlot) (now : Time) : Bool :=
  c.state == .complete && c.recipe.entry.life != 0
    && decide (c.recipe.entry.life * 60000 ≤ (now - c.completed).toNat)

/-- R85: the slots that expire at `now`. -/
def State.expiring (s : State) : List (Fin 6) := (List.finRange 6).filter fun i => s.weigh.charges[i].outlived s.time

/-- R85: the expiry check of every COMPLETE slot. -/
def State.expireCharges (s : State) : State :=
  (s.setWeigh { s.weigh with
    charges := Vector.ofFn fun i =>
      if s.weigh.charges[i].outlived s.time then { s.weigh.charges[i] with state := .expired }
      else s.weigh.charges[i] }).report
    (s.expiring.map fun i => .cause .chargeExpired (byteOf i.val) 0)

/-! ## Head channel commands (R78 to R86, R88) -/

/-- The recipe at an index of the table. -/
def CellMap.recipe? (m : CellMap) (r : Nat) : Option RecipeEntry := m.recipes[r]?

/-- R79: the lowest-numbered FREE slot. -/
def Weigh.freeSlot (w : Weigh) : Option (Fin 6) := (List.finRange 6).find? fun i => w.charges[i].state == .free

/-- R88: what the fetched map must leave alone for OPEN CHARGE on head `h` in the fetched interval. -/
def State.openAllowed (s : State) (h : Fin 4) : Bool :=
  match s.maps.fetched with
  | none => true
  | some f => s.cell.headEnable.getLsbD h.val && f.headEnable.getLsbD h.val && f.baud == s.cell.baud
      && f.settle == s.cell.settle && f.band == s.cell.band

/-- R80: OPEN CHARGE carried out in slot `i`. -/
def State.openSlot (s : State) (h : Fin 4) (i : Fin 6) (r : Nat) (e : RecipeEntry) (weight : Int) : State :=
  s.setWeigh { s.weigh with
    charges := s.weigh.charges.set i
      { state := .opened
        head := h
        id := s.weigh.nextId
        recipe := ⟨r, e⟩
        reference := weight
        plies := []
        total := 0
        reason := .none
        completed := 0xFFFFFFFF#32 }
    heads := s.weigh.heads.set h { s.weigh.heads[h] with held := some i }
    nextId := if 65535 ≤ s.weigh.nextId then 1 else s.weigh.nextId + 1 }

/-- R78, R79, R80, R88: OPEN CHARGE with argument `r` on head `h`: the outcome and the state. -/
def State.openCharge (s : State) (h : Fin 4) (r : Nat) : Byte × State :=
  if s.weigh.heads[h].state = .disabled then (0x4D, s)
  else if s.openAllowed h = false then (0x4D, s)
  else if s.weigh.heads[h].state ≠ .ready then (0x4B, s)
  else match s.cell.recipe? r with
    | none => (0x41, s)
    | some e =>
      if e.valid = false then (0x41, s)
      else if s.weigh.heads[h].held.isSome then (0x42, s)
      else match s.settled h, s.weigh.freeSlot with
        | none, _ => (0x45, s)
        | some _, none => (0x43, s)
        | some weight, some i => (0x02, s.openSlot h i r e weight)

/-- R84: the judgement of a charge. -/
def ChargeSlot.judge (c : ChargeSlot) : ChargeReason :=
  if c.plies = [] then .noPlies
  else if c.total < c.recipe.entry.target - c.recipe.entry.tolerance then .under
  else if c.recipe.entry.target + c.recipe.entry.tolerance < c.total then .over
  else .none

/-- R84: the OPEN charge of head `h` in slot `i` is judged. -/
def State.judgeCharge (s : State) (h : Fin 4) (i : Fin 6) : State :=
  let c := s.weigh.charges[i]
  let s1 := (s.setCharge i { c with
    state := if c.judge = .none then .complete else .rejected
    reason := c.judge
    completed := s.time }).setHead h { s.weigh.heads[h] with held := none }
  if c.judge = .none then s1.raise .chargeComplete (byteOf i.val) (byteOf c.plies.length)
  else s1.raise .chargeRejected (byteOf i.val) c.judge.code

/-- R78, R84: CLOSE CHARGE on head `h`. -/
def State.closeCharge (s : State) (h : Fin 4) : Byte × State :=
  if s.weigh.heads[h].state = .disabled then (0x4D, s)
  else match s.weigh.heads[h].held with
    | none => (0x42, s)
    | some i => (0x02, s.judgeCharge h i)

/-- A slot freed keeps its other fields (R77). -/
def ChargeSlot.freed (c : ChargeSlot) : ChargeSlot := { c with state := .free }

/-- R86: slot `i` becomes FREE, and a head whose OPEN charge it was no longer holds it. -/
def State.freeCharge (s : State) (i : Fin 6) : State :=
  s.setWeigh { s.weigh with
    charges := s.weigh.charges.set i s.weigh.charges[i].freed
    heads := Vector.ofFn fun h =>
      if s.weigh.heads[h].held = some i then { s.weigh.heads[h] with held := none } else s.weigh.heads[h] }

/-- R78, R86: DISCARD CHARGE with argument `n`. -/
def State.discardCharge (s : State) (n : Nat) : Byte × State :=
  if h : n < 6 then
    if s.weigh.charges[n].state = .free then (0x42, s) else (0x02, s.freeCharge ⟨n, h⟩)
  else (0x41, s)

/-! ## The switch of a commit (R69, R73, R90) -/

/-- R73, R90: head `h` at the switch from map `old` to map `new`. -/
def Head.switch (x : Head) (old new : CellMap) (h : Fin 4) : Head :=
  let y : Head :=
    if new.headEnable.getLsbD h.val = false then { x with state := .disabled, window := [] }
    else if x.state = .disabled then { x with state := .unknown, misses := 0, window := [], last := none }
    else x
  let z : Head :=
    if new.baud ≠ old.baud ∧ new.headEnable.getLsbD h.val = true then
      { y with state := .unknown, misses := 0, window := [] }
    else y
  if new.settle ≠ old.settle then { z with window := [] } else z

/-- R69: the slot in progress is discarded when the switch disables its head or makes it UNKNOWN by the baud code. -/
def PollSlot.switch (p : PollSlot) (old new : CellMap) : PollSlot :=
  { p with discard := p.discard || !new.headEnable.getLsbD p.head.val || new.baud != old.baud }

/-- R69, R73, R90: the Weigh Channel at a switch; `first` on the first commit after power-on reset. -/
def Weigh.switch (w : Weigh) (old new : CellMap) (first : Bool) : Weigh :=
  { w with
    heads := Vector.ofFn fun h => w.heads[h].switch old new h
    slot := w.slot.map fun p => p.switch old new
    lastPolled :=
      if first = true ∨ new.headEnable ≠ old.headEnable ∨ new.baud ≠ old.baud then none else w.lastPolled }

end Sys2Proof.Machine
end

