-- ==== Sys2Proof/Machine/FieldCommands.lean ====
section
/-! DEFINITION. The meanings of the commands of the field side: samples, stroke timers, polls and answers, the
expiry check. -/

namespace Sys2Proof.Machine

/-- R92, log 3: one millisecond of cell time and its sample. A timer that runs out at that millisecond is due after the
sample's changes, the model's choice (R107, log 34). -/
def State.sample (s : State) (pins : BitVec 32) : State := (s.setTime (s.time + 1)).sampleLines pins

/-- The timer of daylight `d` has run out in a phase (R98, log 27); due after the changes of the sample of that
millisecond, the model's choice (R107, log 34). -/
def State.timerDue (s : State) (d : Fin 4) (phase : Phase) : Bool :=
  s.seqs[d].phase == phase && s.seqs[d].ranOut s.time

/-- R101: a failed attempt. -/
def State.strokeTimesOut (s : State) (d : Fin 4) : State :=
  (s.raise .ejectorAttemptFailed (byteOf d.val) (byteOf s.seqs[d].attempts)).enterRetracting d .failed

/-- R85: the check falls in a whole second of cell time. -/
def State.wholeSecond (s : State) : Bool := s.time.toNat % 1000 == 0

/-- R70, R72: the slot in progress ends with an answer or without one. -/
def State.endSlot (s : State) (answer : Option (List RxChar)) : State :=
  match answer with
  | some chars => s.endAnswer chars
  | none => s.noAnswer

/-! ## The rows -/

/-- SAMPLE (R92). -/
def execSample (pins : BitVec 32) (s : State) : Host.Outcome State Fault Refusal := (s.sample pins).done

/-- DEBOUNCED_CHANGE (R92): the sample, when it changes the debounced level of line `n` (log 5). -/
def execDebouncedChange (n : Fin 32) (pins : BitVec 32) (s : State) : Host.Outcome State Fault Refusal :=
  (if (s.changing pins).contains n then s.sample pins else s).done

/-- STROKE_TIMEOUT (R101). -/
def execStrokeTimeout (d : Fin 4) (s : State) : Host.Outcome State Fault Refusal :=
  (if s.timerDue d .extending then s.strokeTimesOut d else s).done

/-- RETRACT_TIMEOUT (R102). -/
def execRetractTimeout (d : Fin 4) (s : State) : Host.Outcome State Fault Refusal :=
  (if s.timerDue d .retracting then s.strokeFails d .notHome else s).done

/-- DWELL_EXPIRY (R104). -/
def execDwellExpiry (d : Fin 4) (s : State) : Host.Outcome State Fault Refusal :=
  (if s.timerDue d .dwell then s.dwellOver d else s).done

/-- FINAL_RETRACT_TIMEOUT (R104). -/
def execFinalRetractTimeout (d : Fin 4) (s : State) : Host.Outcome State Fault Refusal :=
  (if s.timerDue d .finalRetract then s.strokeFails d .notHome else s).done

/-- POLL (R69, R70). -/
def execPoll (s : State) : Host.Outcome State Fault Refusal := s.startSlot.done

/-- ANSWER_WAIT_EXPIRY (R70). -/
def execAnswerWaitExpiry (s : State) : Host.Outcome State Fault Refusal := s.noAnswer.done

/-- HEAD_SILENT (R74): the end of the slot, when its miss makes head `h` SILENT (log 5). -/
def execHeadSilent (h : Fin 4) (answer : Option (List RxChar)) (s : State) : Host.Outcome State Fault Refusal :=
  (if s.silenceDue h answer then s.endSlot answer else s).done

/-- ANSWER_END (R72). -/
def execAnswerEnd (chars : List RxChar) (s : State) : Host.Outcome State Fault Refusal := (s.endAnswer chars).done

/-- CHARGE_EXPIRED (R85). -/
def execChargeExpired (s : State) : Host.Outcome State Fault Refusal :=
  (if s.wholeSecond then s.expireCharges else s).done

end Sys2Proof.Machine
end

