-- ==== Sys2Proof/Machine/Link.lean ====
section
/-! DEFINITION. The Heat Link Controller (chapter 1): the sweep-end evaluation in the order of R5 to R19,
discovery, detail fetch and the building of the outbound frame. -/

namespace Sys2Proof.Machine

/-- What the controller hands to the Zone Unit for one module (R10). -/
inductive ModuleReport where
  | notPresent
  | held
  | fresh (r : Reading)
deriving DecidableEq, Repr

/-- The outcome of an evaluation: the controller's state, the reports raised so far and a link completion. -/
structure LinkStep where
  link       : Link
  reports    : List Report
  completion : Option Byte
deriving DecidableEq, Repr

/-- A step that has changed nothing yet. -/
def LinkStep.of (l : Link) : LinkStep := ⟨l, [], none⟩

/-- The completion codes of RESTART LINK (Table 1-6). -/
def linkDone : Byte := 0x02
def linkShort : Byte := 0x85
def linkOfflineCode : Byte := 0x86

/-- The link exchanges frames in these states (Table 1-3). -/
def LinkState.frames : LinkState → Bool
  | .down => false
  | .discovering => true
  | .running => true
  | .degraded => true
  | .offline => false

/-- A module whose miss count is kept: PRESENT or MISMATCH (R5, R6, R8). -/
def Module.counted (m : Module) : Bool := m.state == .present || m.state == .mismatch

/-- R5, R6: a miss of a counted module. -/
def Module.missed (m : Module) : Module :=
  if m.counted then { m with miss := min Config.missLimit (m.miss + 1) } else m

/-- R5, R6: a rise of the health counter, saturating. -/
def Link.raiseHealth (l : Link) (n : Nat) : Link := { l with health := min Config.healthMax (l.health + n) }

/-! ## Places (R6, R7, R18) -/

/-- The places the part expects of a sweep (R4). -/
def Sweep.places (w : Sweep) : Nat :=
  match w.slot with
  | .discover _ => w.found + 1
  | .none => w.found
  | .detail _ => w.found

/-- The class of each position's place: missing beyond the expected places. -/
def placeClass (w : Sweep) (frame : List Byte) (p : Fin 10) : PlaceClass :=
  if p.val < w.places then classifyPlace p.val (place frame p.val) else .missing

/-- The section in a position's place. -/
def sectionOf (frame : List Byte) (p : Fin 10) : List Byte := (place frame p.val).getD []

/-- R6, R7: a place's class applied to the module at its position. -/
def Module.applyPlace (m : Module) (cls : PlaceClass) (sec : List Byte) : Module :=
  match m.state, cls with
  | .present, .good => { m with miss := 0, attention := sectionAttention sec, tripped := sectionTripped sec }
  | .present, .missing => m.missed
  | .mismatch, .good => { m with miss := 0 }
  | .mismatch, .missing => m.missed
  | _, _ => m

/-- The section carries the detail answer of the module that rides the command slot (R7, R19). -/
def carriesDetail (w : Sweep) (p : Fin 10) (sec : List Byte) : Bool :=
  w.slot == .detail p && isDetailCode (sectionKind sec)

/-- R18: position `p` enters the detail-fetch queue. -/
def attends (l : Link) (w : Sweep) (frame : List Byte) (p : Fin 10) : Bool :=
  l.modules[p].state == .present && placeClass w frame p == .good && sectionAttention (sectionOf frame p)
    && !carriesDetail w p (sectionOf frame p) && !l.queue.contains p

/-- The number of places with a check error (R6). -/
def checkErrors (w : Sweep) (frame : List Byte) : Nat :=
  ((List.finRange 10).filter fun p => decide (p.val < w.places) && placeClass w frame p == .checkError).length

/-- R5: a header that is not good. -/
def Link.badHeader (l : Link) (frameArrived : Bool) : Link :=
  let l1 := l.raiseHealth 8
  if frameArrived then l1 else { l1 with modules := Vector.ofFn fun p => l.modules[p].missed }

/-- R6, R7, R9, R18: a good header; every place is classified and applied, and a clean sweep lowers health. -/
def Link.goodHeader (l : Link) (w : Sweep) (frame : List Byte) : LinkStep :=
  let entering := (List.finRange 10).filter (attends l w frame)
  let l1 := l.raiseHealth (checkErrors w frame)
  let l2 := if checkErrors w frame = 0 then { l1 with health := l1.health - 1 } else l1
  { link := { l2 with
      modules := Vector.ofFn fun p => l.modules[p].applyPlace (placeClass w frame p) (sectionOf frame p)
      queue := l.queue ++ entering }
    reports := entering.map fun p => .cause .moduleAttention (byteOf p.val) 0x00
    completion := none }

/-! ## Loss of modules (R8, R20) -/

/-- R8: the break point, the lowest counted module whose miss count has reached 32. -/
def Link.breakPoint (l : Link) : Option (Fin 10) :=
  (List.finRange 10).find? fun p => l.modules[p].counted && decide (Config.missLimit ≤ l.modules[p].miss)

/-- R8: the modules lost with a break at `b`. -/
def Link.lostAt (l : Link) (b : Fin 10) (p : Fin 10) : Bool :=
  decide (b.val ≤ p.val) && decide (p.val < l.found) && l.modules[p].counted

/-- R20: take positions out of the detail-fetch queue, each resolved LOST, head first. -/
def LinkStep.dropQueue (x : LinkStep) (gone : Fin 10 → Bool) : LinkStep :=
  let front := x.link.queue.head?
  let kept := x.link.queue.filter fun p => !gone p
  { x with
    link := { x.link with queue := kept, ride := if kept.head? = front then x.link.ride else 0 }
    reports := x.reports ++ (x.link.queue.filter gone).map fun p => .resolution p 0xFF }

/-- A module made LOST. -/
def Module.lose (m : Module) : Module := { m with state := .lost }

/-- R8: the loss test. -/
def LinkStep.lossTest (x : LinkStep) : LinkStep :=
  match x.link.breakPoint with
  | none => x
  | some b =>
    let lost := (List.finRange 10).filter (x.link.lostAt b)
    let y := x.dropQueue (x.link.lostAt b)
    { y with
      link := { y.link with
        modules := Vector.ofFn fun p => if x.link.lostAt b p then x.link.modules[p].lose else x.link.modules[p] }
      reports := y.reports ++ lost.map fun p => .cause .moduleLost (byteOf p.val) (byteOf b.val) }

/-! ## Link state tests (R11, R12) -/

/-- R12: the link becomes OFFLINE. -/
def LinkStep.goOffline (x : LinkStep) : LinkStep :=
  let y := x.dropQueue fun _ => true
  { link := { y.link with
      state := .offline
      ride := 0
      modules := Vector.ofFn fun p => if y.link.modules[p].counted then y.link.modules[p].lose else y.link.modules[p]
      restart := false }
    reports := y.reports ++ [.cause .linkOffline 0 0]
    completion := if x.link.restart then some linkOfflineCode else x.completion }

/-- R11: the tests of the health counter; `before` is the counter at the start of the evaluation. -/
def LinkStep.stateTest (x : LinkStep) (before : Nat) : LinkStep :=
  if x.link.state.frames ∧ Config.healthMax ≤ x.link.health then x.goOffline
  else match x.link.state with
    | .running =>
      if Config.degradeAt ≤ x.link.health then
        { x with
          link := { x.link with state := .degraded }
          reports := x.reports ++ [.cause .linkDegraded 0 (byteOf x.link.health)] }
      else if Config.warnAt ≤ x.link.health ∧ before < Config.warnAt then
        { x with reports := x.reports ++ [.cause .linkWarned 0 (byteOf x.link.health)] }
      else x
    | .degraded => if x.link.health < Config.warnAt then { x with link := { x.link with state := .running } } else x
    | .down => x
    | .discovering => x
    | .offline => x

/-! ## Discovery (R14 to R17) -/

/-- R17: discovery ends; the link enters RUNNING, the tests of R11 are applied, a RESTART LINK completes. -/
def LinkStep.endDiscovery (x : LinkStep) (short : Bool) (before : Nat) : LinkStep :=
  LinkStep.stateTest
    { x with
      link := { x.link with state := .running, probes := 0, restart := false }
      completion :=
        if x.link.restart then some (if short then linkShort else linkDone) else x.completion } before

/-- R15: the identity answer of the probed position. -/
def LinkStep.identify (x : LinkStep) (m : CellMap) (n : Fin 10) (channels : Byte) (before : Nat) : LinkStep :=
  let matching := decide (channels.toNat = m.channels[n])
  let y : LinkStep := { x with
    link := { x.link with
      modules := x.link.modules.set n
        { x.link.modules[n] with state := if matching then .present else .mismatch, miss := 0 }
      found := n.val + 1
      probes := 0 }
    reports := x.reports ++ (if matching then [] else [.cause .moduleMismatch (byteOf n.val) channels]) }
  if n.val + 1 < m.modules then y else y.endDiscovery false before

/-- R16: a probe sweep without an answer; the fourth ends discovery short. -/
def LinkStep.unanswered (x : LinkStep) (m : CellMap) (before : Nat) : LinkStep :=
  if x.link.probes + 1 < Config.probeLimit then { x with link := { x.link with probes := x.link.probes + 1 } }
  else
    LinkStep.endDiscovery
      { x with
        link := { x.link with
          modules := Vector.ofFn fun p =>
            if x.link.found ≤ p.val ∧ p.val < m.modules then { x.link.modules[p] with state := .missing }
            else x.link.modules[p] }
        reports := x.reports ++ [.cause .discoveryShort 0 (byteOf x.link.found)] } true before

/-- R15: the identity answer in a good frame, when the probed place carries one. -/
def identityAnswer (w : Sweep) (frame? : Option (List Byte)) (n : Fin 10) : Option Byte :=
  match frame? with
  | none => none
  | some frame =>
    if placeClass w frame n = .good ∧ sectionKind (sectionOf frame n) ≠ 0 then
      some (sectionChannels (sectionOf frame n))
    else none

/-- R15 to R17: the discovery step of a sweep that probed. -/
def LinkStep.discover (x : LinkStep) (m : CellMap) (w : Sweep) (frame? : Option (List Byte)) (before : Nat) :
    LinkStep :=
  if x.link.state ≠ .discovering then x
  else match w.slot with
    | .discover _ =>
      if h : x.link.found < 10 then
        match identityAnswer w frame? ⟨x.link.found, h⟩ with
        | some channels => x.identify m ⟨x.link.found, h⟩ channels before
        | none => x.unanswered m before
      else x
    | .none => x
    | .detail _ => x

/-- R14: discovery starts; the sweep in flight will not be evaluated (R10). -/
def Link.startDiscovery (l : Link) (m : CellMap) : LinkStep :=
  let x := (LinkStep.of l).dropQueue fun _ => true
  let y : LinkStep := { x with link := { x.link with
    state := .discovering
    health := 0
    found := 0
    probes := 0
    ride := 0
    restarted := true
    modules := Vector.replicate 10 Module.powerOn } }
  if m.modules = 0 then y.endDiscovery false 0 else y

/-! ## Detail fetch (R19) -/

/-- The detail code that the head's place carries, when it does. -/
def detailAnswer (w : Sweep) (frame? : Option (List Byte)) (p : Fin 10) : Option Byte :=
  match frame? with
  | none => none
  | some frame =>
    if placeClass w frame p = .good ∧ isDetailCode (sectionKind (sectionOf frame p)) = true then
      some (sectionKind (sectionOf frame p))
    else none

/-- R19: the detail-fetch step of a sweep whose slot the head rode. -/
def LinkStep.detailStep (x : LinkStep) (w : Sweep) (frame? : Option (List Byte)) : LinkStep :=
  match w.slot with
  | .none => x
  | .discover _ => x
  | .detail p =>
    if x.link.queue.head? ≠ some p then x
    else match detailAnswer w frame? p with
      | some code =>
        { x with
          link := { x.link with queue := x.link.queue.tail, ride := 0 }
          reports := x.reports ++ [.resolution p code] }
      | none =>
        if x.link.ride + 1 < Config.rideLimit then { x with link := { x.link with ride := x.link.ride + 1 } }
        else
          { x with
            link := { x.link with queue := x.link.queue.tail, ride := 0 }
            reports := x.reports ++ [.resolution p 0xFF] }

/-! ## The evaluation (R10) -/

/-- The frame of the period, when its header is good (R4). -/
def goodFrame (l : Link) (w : Sweep) : Option (List Byte) :=
  match findFrame l.received with
  | none => none
  | some frame => if headerGood frame w.count then some frame else none

/-- R5, R6, R7, R9: the counter changes of the sweep. -/
def Link.countSweep (l : Link) (w : Sweep) : LinkStep :=
  match goodFrame l w with
  | some frame => l.goodHeader w frame
  | none => LinkStep.of (l.badHeader (findFrame l.received).isSome)

/-- The evaluation up to the discovery step, in the order of R5 to R17: counters, loss test, state test,
discovery (log 15). -/
def Link.beforeDetail (l : Link) (m : CellMap) (w : Sweep) : LinkStep :=
  (((l.countSweep w).lossTest).stateTest l.health).discover m w (goodFrame l w) l.health

/-- R5 to R19 in the order of the evaluation. -/
def Link.evaluate (l : Link) (m : CellMap) (w : Sweep) : LinkStep :=
  (l.beforeDetail m w).detailStep w (goodFrame l w)

/-- The controller's step at a sweep end: a sweep in flight is evaluated, unless discovery was started in the
period; a period without a frame changes no count (R9, R10). -/
def Link.sweepStep (l : Link) (m : CellMap) : LinkStep :=
  if l.restarted then LinkStep.of l
  else match l.inFlight with
    | none => LinkStep.of l
    | some w => l.evaluate m w

/-- R10: what is handed over for module `p`, given the controller before and after the evaluation. A module
found in this very sweep is PRESENT and not fresh: held (log 14). -/
def moduleReport (before : Link) (after : Link) (p : Fin 10) : ModuleReport :=
  if after.modules[p].state ≠ .present then .notPresent
  else if before.restarted then .held
  else match before.inFlight with
    | none => .held
    | some w =>
      match goodFrame before w with
      | none => .held
      | some frame =>
        if before.modules[p].state = .present ∧ placeClass w frame p = .good then
          .fresh (sectionReading (sectionOf frame p))
        else .held

/-! ## The outbound frame (R2, R3) -/

/-- R3: the setpoint a channel carries. -/
def channelSetpoint (m : CellMap) (zones : Vector Zone 40) (l : Link) (p : Fin 10) (c : Nat) : Nat :=
  if l.modules[p].state ≠ .present then 0xFFFF
  else match (List.finRange 40).find? fun z => m.zones[z].wiring == some (p.val, c) with
    | none => 0xFFFF
    | some z => field16 zones[z].request

/-- R3: the setpoint sections for positions 0 to F−1. -/
def setpointSections (m : CellMap) (zones : Vector Zone 40) (l : Link) : List (List Nat) :=
  ((List.finRange 10).filter fun p => decide (p.val < l.found)).map fun p =>
    [0, 1, 2, 3].map (channelSetpoint m zones l p)

/-- R3: the command slot of the next sweep. -/
def Link.nextSlot (l : Link) : CommandSlot :=
  if l.state = .discovering then .discover l.found
  else match l.queue.head? with
    | some p => .detail p
    | none => .none

/-- R2, R3: the next period begins; a frame is built and sent when the link exchanges frames and at least one
module is expected (log 30). -/
def Link.startPeriod (l : Link) (m : CellMap) (zones : Vector Zone 40) : Link :=
  if l.state.frames ∧ 1 ≤ m.modules then
    { l with
      restarted := false
      received := []
      sweepCount := (l.sweepCount + 1) % 4
      inFlight := some ⟨l.sweepCount, l.nextSlot, l.found,
        outboundFrame l.sweepCount l.nextSlot (setpointSections m zones l)⟩ }
  else { l with restarted := false, received := [], inFlight := none }

/-- Take a link step's outcome into the state: reports, and a completion on the link channel. -/
def State.takeLink (s : State) (x : LinkStep) : State :=
  let s1 := (s.setLink x.link).report x.reports
  match x.completion with
  | some code => s1.complete linkChannel code
  | none => s1

end Sys2Proof.Machine
end

