-- ==== Sys2Proof/Machine/Commands.lean ====
section
/-! DEFINITION. The Command Unit (chapter 10) and the decisions of the owners of its channels. -/

namespace Sys2Proof.Machine

/-! ## Codes (Table 10-1) -/

def codeLoad : Byte := 0x01
def codeDemould : Byte := 0x02
def codeAbort : Byte := 0x03
def codeScrap : Byte := 0x04
def codeManualRelease : Byte := 0x05
def codeOpenCharge : Byte := 0x11
def codeCloseCharge : Byte := 0x12
def codeDiscardCharge : Byte := 0x13
def codeRestartLink : Byte := 0x21
def codeSetLine : Byte := 0x31

/-! ## The channel record of a timed command (R178, R179) -/

/-- The stamp of a command word written at an address. -/
def stampOf (data : Word) (addr : Addr) : Stamp := ⟨wordByte data 0, wordByte data 1, wordByte data 2, addr⟩

/-- R178: a timed command makes its channel BUSY in RUNNING. -/
def State.startTimed (s : State) (c : Fin 10) (stamp : Stamp) : State :=
  s.setChan c ⟨.running, some stamp, false, none, false, false⟩

/-- R179: an ABORT becomes the command that the completion is stamped on. -/
def State.startAbort (s : State) (c : Fin 10) (stamp : Stamp) : State :=
  s.setChan c ⟨.running, some stamp, true, none, false, false⟩

/-! ## Daylight commands (chapter 3) -/

/-- R45: the enable bit of daylight `d`. -/
def State.dayEnabled (s : State) (d : Fin 4) : Bool := s.cell.dayEnable.getLsbD d.val

/-- R47: what LOAD checks of the fetched map in the fetched interval. -/
def State.loadAllowed (s : State) (d : Fin 4) : Bool :=
  s.dayEnabled d && match s.maps.fetched with
    | none => true
    | some f => f.dayEnable.getLsbD d.val && f.lineEntries d == s.cell.lineEntries d

/-- R122: no serial is available. -/
def History.noSerial (h : History) : Bool := h.counter == 0 || h.counter == 0xFFFFFFFF

/-- R48: the recipe fields a daylight uses. -/
def RecipeSnapshot.cure (r : RecipeSnapshot) : CureRecipe where
  index := r.index
  activation := r.entry.activation
  doseTarget := r.entry.doseTarget
  maxCure := r.entry.maxCure
  maxGap := r.entry.maxGap
  stroke := r.entry.stroke
  retries := r.entry.retries
  dwell := r.entry.dwell

/-- R48: the record a LOAD opens. -/
def ChargeSlot.openRecord (c : ChargeSlot) (now : Time) : OpenRecord where
  head := c.head
  plies := c.plies
  total := c.total
  loadTime := now
  cureStart := none
  curedTime := none
  changes := []
  lost := 0
  overtemp := false
  degraded := false
  notApplied := false

/-- R48: daylight `c` loaded from a charge with a serial. -/
def Daylight.loadFrom (c : Daylight) (charge : ChargeSlot) (serial : Nat) (now : Time) : Daylight :=
  { c with
    state := .loaded
    recipe := charge.recipe.cure
    dose := 0
    sweeps := 0
    gap := 0
    totalGap := 0
    interruptions := 0
    minTemp := none
    maxTemp := none
    fault := .none
    attempts := 0
    serial := serial
    chargeId := charge.id
    record := some (charge.openRecord now) }

/-- R123: the injected write of the last-serial word. -/
def lastSerialWrite (serial : Nat) : QEntry := ⟨mapAddr 0x01C, BitVec.ofNat 32 serial, .lastSerial⟩

/-- R48, R122, R123: a LOAD that passes its checks, from slot `i`. -/
def State.carryLoad (s : State) (d : Fin 4) (i : Fin 6) : State :=
  (((s.setHist { s.hist with counter := s.hist.counter + 1 }).inject (lastSerialWrite s.hist.counter)).setDay d
    (s.days[d].loadFrom s.weigh.charges[i] s.hist.counter s.time)).freeCharge i

/-- R46: LOAD on an enabled daylight `d` from slot `i`. -/
def State.loadSlot (s : State) (d : Fin 4) (i : Fin 6) : Byte × State :=
  if s.level (.closed d) then (0x4A, s)
  else if s.weigh.charges[i].state = .expired then (0x46, s)
  else if s.weigh.charges[i].state ≠ .complete then (0x42, s)
  else if s.hist.noSerial then (0x47, s)
  else (0x02, s.carryLoad d i)

/-- R45, R46, R47: LOAD with argument `n`. -/
def State.loadDecision (s : State) (d : Fin 4) (n : Nat) : Byte × State :=
  if s.loadAllowed d = false then (0x4D, s)
  else if s.days[d].state ≠ .vacant then (0x42, s)
  else if h : n < 6 then s.loadSlot d ⟨n, h⟩
  else (0x41, s)

/-- R58: a DEMOULD that passes its checks; its channel is BUSY before the stroke starts. -/
def State.carryDemould (s : State) (d : Fin 4) (stamp : Stamp) : State :=
  (((s.startTimed (dayChannel d) stamp).reserve).setDay d
    { s.days[d] with state := .demoulding, reserved := true }).startStroke d

/-- R45, R57: DEMOULD. -/
def State.demouldDecision (s : State) (d : Fin 4) (stamp : Stamp) : Byte × State :=
  if s.dayEnabled d = false then (0x4D, s)
  else if s.days[d].state ≠ .cured then (0x42, s)
  else if s.level (.closed d) then (0x4A, s)
  else if s.level .cellStop then (0x49, s)
  else if s.level (.ejected d) then (0x48, s)
  else if s.hist.mayReserve = false then (0x44, s)
  else (0x01, s.carryDemould d stamp)

/-- R45, R59, R106, R179: ABORT. -/
def State.abortDecision (s : State) (d : Fin 4) (stamp : Stamp) : Byte × State :=
  if s.dayEnabled d = false then (0x4D, s)
  else if s.days[d].state ≠ .demoulding then (0x42, s)
  else (0x01, (s.startAbort (dayChannel d) stamp).abortStroke d)

/-- R45: the states SCRAP is taken in. -/
def DayState.scrappable : DayState → Bool
  | .vacant => false
  | .loaded => true
  | .curing => true
  | .held => true
  | .cured => true
  | .demoulding => false
  | .faulted => true

/-- R45, R63: SCRAP. -/
def State.scrapDecision (s : State) (d : Fin 4) : Byte × State :=
  if s.dayEnabled d = false then (0x4D, s)
  else if s.days[d].state.scrappable = false then (0x42, s)
  else if s.hist.mayReserve = false then (0x44, s)
  else (0x02, s.reserve.closeRecord d .scrapped)

/-- R45, R64: MANUAL RELEASE. -/
def State.manualDecision (s : State) (d : Fin 4) : Byte × State :=
  if s.dayEnabled d = false then (0x4D, s)
  else if s.days[d].state ≠ .faulted then (0x42, s)
  else if s.hist.mayReserve = false then (0x44, s)
  else (0x02, s.reserve.closeRecord d .manual)

/-- R45, R176 test 4: a write on the channel of daylight `d`. -/
def State.dayCommand (s : State) (d : Fin 4) (stamp : Stamp) : Byte × State :=
  if stamp.code = codeLoad then s.loadDecision d stamp.argument.toNat
  else if stamp.code = codeDemould then s.demouldDecision d stamp
  else if stamp.code = codeAbort then s.abortDecision d stamp
  else if stamp.code = codeScrap then s.scrapDecision d
  else if stamp.code = codeManualRelease then s.manualDecision d
  else (0x40, s)

/-! ## The other owners -/

/-- R78, R176 test 4: a write on the channel of head `h`. -/
def State.headCommand (s : State) (h : Fin 4) (stamp : Stamp) : Byte × State :=
  if stamp.code = codeOpenCharge then s.openCharge h stamp.argument.toNat
  else if stamp.code = codeCloseCharge then s.closeCharge h
  else if stamp.code = codeDiscardCharge then s.discardCharge stamp.argument.toNat
  else (0x40, s)

/-- R21: RESTART LINK carried out; its channel is BUSY before discovery starts. -/
def State.carryRestart (s : State) (stamp : Stamp) : State :=
  (s.startTimed linkChannel stamp).takeLink (({ s.link with restart := true } : Link).startDiscovery s.cell)

/-- R21, R176 test 4: a write on the link channel. -/
def State.linkCommand (s : State) (stamp : Stamp) : Byte × State :=
  if stamp.code = codeRestartLink then (0x01, s.carryRestart stamp) else (0x40, s)

/-- R96: SET LINE. -/
def State.setLineDecision (s : State) (argument : Byte) : Byte × State :=
  if h : (argument.extractLsb' 0 7).toNat < 32 then
    if s.cell.lines[(argument.extractLsb' 0 7).toNat].mode ≠ 2 then (0x4C, s)
    else (0x02, s.setLine ⟨(argument.extractLsb' 0 7).toNat, h⟩
      { s.lines[(argument.extractLsb' 0 7).toNat] with latch := argument.msb })
  else (0x41, s)

/-- R96, R176 test 4: a write on the lines channel. -/
def State.linesCommand (s : State) (stamp : Stamp) : Byte × State :=
  if stamp.code = codeSetLine then s.setLineDecision stamp.argument else (0x40, s)

/-! ## Taking a command write (R176) -/

/-- The owners of Table 10-1. -/
inductive ChannelOwner where
  | daylight (d : Fin 4) | head (h : Fin 4) | link | lines
deriving DecidableEq, Repr

/-- Table 10-1. -/
def channelOwner (c : Fin 10) : ChannelOwner :=
  if h : c.val < 4 then .daylight ⟨c.val, h⟩
  else if h : c.val < 8 then .head ⟨c.val - 4, by omega⟩
  else if c.val = 8 then .link
  else .lines

/-- The channel of head `h`. -/
def headChannel (h : Fin 4) : Fin 10 := ⟨4 + h.val, by omega⟩

/-- The lines channel. -/
def linesChannel : Fin 10 := 9

/-- Table 10-1: the codes an owner takes. -/
def ChannelOwner.codes : ChannelOwner → List Byte
  | .daylight _ => [codeLoad, codeDemould, codeAbort, codeScrap, codeManualRelease]
  | .head _ => [codeOpenCharge, codeCloseCharge, codeDiscardCharge]
  | .link => [codeRestartLink]
  | .lines => [codeSetLine]

/-- R177: the decision of the owner of channel `c`. -/
def State.ownerDecision (s : State) (c : Fin 10) (stamp : Stamp) : Byte × State :=
  match channelOwner c with
  | .daylight d => s.dayCommand d stamp
  | .head h => s.headCommand h stamp
  | .link => s.linkCommand stamp
  | .lines => s.linesCommand stamp

/-- R179: an ABORT that passes the BUSY test. -/
def State.abortPasses (s : State) (c : Fin 10) (code : Byte) : Bool :=
  match channelOwner c with
  | .daylight d => code == codeAbort && s.chans[c].phase == .running && !s.chans[c].abort
      && s.days[d].state == .demoulding
  | .head _ => false
  | .link => false
  | .lines => false

/-- R176 test 3: the write is held back. -/
def State.channelBusy (s : State) (c : Fin 10) (code : Byte) : Bool :=
  s.chans[c].phase != .idle && !s.abortPasses c code

/-- R152: a command word with the part's outcome in place of byte 3. -/
def withOutcome (data : Word) (outcome : Byte) : Word := outcome ++ data.extractLsb' 0 24

end Sys2Proof.Machine
end

