-- ==== Sys2Proof/Machine/Image.lean ====
section
/-! DEFINITION. The words the part serves: the SETPOINT and IMAGE windows, the snapshot latches, the identity and
channel status words (8.3, 8.4, 11.3). -/

namespace Sys2Proof.Machine

/-- A word of two 16-bit fields. -/
def halves (lo hi : Nat) : Word := wordOf (byteOf lo) (byteOf (lo / 256)) (byteOf hi) (byteOf (hi / 256))

/-- R146: the identity word. -/
def identityWord : Word := wordOf 0x4F 0x24 0x01 0x01

/-! ## The SETPOINT window (R41, R149) -/

/-- R41: the zone word of the SETPOINT window; an unmapped zone shows its request as kept and no applied setpoint. -/
def Zone.setpointWord (z : Zone) (mapped : Bool) : Word :=
  halves (field16 z.request) (field16 (if mapped then z.applied else none))

/-- The zone whose word stands at an offset. -/
def zoneAt? (o : Nat) : Option (Fin 40) := if h : o / 4 < 40 then some ⟨o / 4, h⟩ else none

/-- The platen whose broadcast word stands at an offset. -/
def platenAt? (o : Nat) : Option (Fin 5) :=
  if h : 0x100 ≤ o ∧ (o - 0x100) / 4 < 5 then some ⟨(o - 0x100) / 4, h.2⟩ else none

/-- R41: the word at offset `o` of the SETPOINT window. -/
def State.setpointWord (s : State) (o : Nat) : Word :=
  match zoneAt? o, platenAt? o with
  | some z, _ => s.zones[z].setpointWord s.cell.zones[z].mapped
  | none, some _ => 0xFFFFFFFF#32
  | none, none => 0

/-! ## The IMAGE window (Table 11-4) -/

/-- R42: the zone word of the IMAGE window. -/
def Zone.imageWord (z : Zone) : Word :=
  wordOf (byteOf (field16 z.reading)) (byteOf (field16 z.reading / 256)) (byteOf z.rstate.code)
    (byteOf (z.status.code + if z.latched then 0x80 else 0))

/-- R66: the eight words of a daylight block. -/
def Daylight.block (c : Daylight) : List Word :=
  [ wordOf (byteOf c.state.code) c.fault.code (byteOf c.recipe.index) (byteOf c.interruptions),
    BitVec.ofNat 32 c.serial,
    BitVec.ofNat 32 c.dose,
    BitVec.ofNat 32 c.recipe.doseTarget,
    BitVec.ofNat 32 c.sweeps,
    halves c.gap c.totalGap,
    halves (field16 c.minTemp) (field16 c.maxTemp),
    wordOf (byteOf c.chargeId) (byteOf (c.chargeId / 256)) (byteOf c.attempts) (if c.reserved then 1 else 0) ]

/-- R89: the four words of a charge slot block. -/
def ChargeSlot.block (c : ChargeSlot) : List Word :=
  [ wordOf (byteOf c.state.code) c.reason.code (byteOf c.head.val) (byteOf c.recipe.index),
    wordOf (byteOf c.id) (byteOf (c.id / 256)) (byteOf c.plies.length) (byteOf c.recipe.entry.maxPlies),
    BitVec.ofInt 32 c.total,
    c.completed ]

/-- R22: the module state byte of position `p`. -/
def Link.moduleByte (l : Link) (p : Fin 10) : Byte :=
  byteOf (l.modules[p].state.code + (if l.modules[p].attention then 0x10 else 0)
    + (if l.modules[p].tripped then 0x20 else 0) + (if l.queue.contains p then 0x40 else 0))

/-- R22: the four words of the link block; the last two bytes read 0. -/
def Link.block (l : Link) : List Word :=
  [ wordOf (byteOf l.state.code) (byteOf l.health) (byteOf (l.health / 256)) (byteOf (l.sweepCount + 16 * l.found)),
    wordOf (l.moduleByte 0) (l.moduleByte 1) (l.moduleByte 2) (l.moduleByte 3),
    wordOf (l.moduleByte 4) (l.moduleByte 5) (l.moduleByte 6) (l.moduleByte 7),
    wordOf (l.moduleByte 8) (l.moduleByte 9) 0 0 ]

/-- R89: the status flags of the last valid answer; free while there is none (log 12). -/
def State.headStatus (s : State) (h : Fin 4) : BitVec 4 :=
  match s.weigh.heads[h].last with
  | some a => a.flags
  | none => Config.noAnswerStatus s.choice h.val

/-- R89: the settled weight, or the weight of the last valid answer; free while there is none (log 12). -/
def State.headWeight (s : State) (h : Fin 4) : BitVec 24 :=
  match s.settled h, s.weigh.heads[h].last with
  | some w, _ => BitVec.ofInt 24 w
  | none, some a => BitVec.ofInt 24 a.weight
  | none, none => Config.noAnswerWeight s.choice h.val

/-- R89: the first word of head `h`. -/
def State.headWord0 (s : State) (h : Fin 4) : Word :=
  wordOf (byteOf s.weigh.heads[h].state.code) (BitVec.setWidth 8 (s.headStatus h))
    (byteOf s.weigh.heads[h].errors) (byteOf (s.weigh.heads[h].errors / 256))

/-- R89: the second word of head `h`. -/
def State.headWord1 (s : State) (h : Fin 4) : Word :=
  byteOf (s.weigh.heads[h].window.length + if (s.settled h).isSome then 0x80 else 0) ++ s.headWeight h

/-- R97: the line level word. -/
def State.lineWord (s : State) : Word :=
  (List.finRange 32).foldl (fun acc n => if s.imageBit n then acc ||| BitVec.twoPow 32 n.val else acc) 0

/-- R126, R172: the history and passage word. -/
def State.historyWord (s : State) : Word :=
  wordOf (byteOf s.hist.occupied) (byteOf s.hist.reserved) (byteOf s.maps.stage.code)
    (if s.pass.mapped then 1 else 0)

/-- The multi-word blocks, one snapshot latch each (R151). -/
inductive ImageBlock where
  | day (d : Fin 4) | slot (i : Fin 6) | link
deriving DecidableEq, Repr

/-- The latch of a block. -/
def ImageBlock.latch : ImageBlock → Fin 11
  | .day d => ⟨d.val, by omega⟩
  | .slot i => ⟨4 + i.val, by omega⟩
  | .link => 10

/-- The live words of a block. -/
def State.blockWords (s : State) : ImageBlock → List Word
  | .day d => s.days[d].block
  | .slot i => s.weigh.charges[i].block
  | .link => s.link.block

/-- Table 8-3: the block and the word of it at an offset. -/
def blockAt? (o : Nat) : Option (ImageBlock × Nat) :=
  if h : 0x100 ≤ o ∧ (o - 0x100) / 32 < 4 then some (.day ⟨(o - 0x100) / 32, h.2⟩, o % 32 / 4)
  else if h : 0x200 ≤ o ∧ (o - 0x200) / 16 < 6 then some (.slot ⟨(o - 0x200) / 16, h.2⟩, o % 16 / 4)
  else if 0x2A0 ≤ o ∧ o < 0x2B0 then some (.link, o % 16 / 4)
  else none

/-- The head whose words stand at an offset. -/
def headAt? (o : Nat) : Option (Fin 4) :=
  if h : 0x280 ≤ o ∧ (o - 0x280) / 8 < 4 then some ⟨(o - 0x280) / 8, h.2⟩ else none

/-- The unlatched words of Table 8-3; 0 outside the regions. -/
def State.unlatchedWord (s : State) (o : Nat) : Word :=
  match zoneAt? o, headAt? o with
  | some z, _ => s.zones[z].imageWord
  | none, some h => if o % 8 < 4 then s.headWord0 h else s.headWord1 h
  | none, none =>
    if o = 0x2C0 then s.lineWord
    else if o = 0x2C4 then s.time
    else if o = 0x2C8 then BitVec.ofNat 32 s.hist.counter
    else if o = 0x2CC then s.historyWord
    else 0

/-- Fill the latch of a block with its live words (R151). -/
def State.fillLatch (s : State) (b : ImageBlock) : State :=
  s.setPass { s.pass with latches := s.pass.latches.set b.latch (some (s.blockWords b)) }

/-- R150, R151: a read at offset `o` of the IMAGE window: the word served, and the state after the taking. A head
word without a last valid answer uses up a free value (log 12). -/
def State.imageRead (s : State) (o : Nat) : Word × State :=
  match blockAt? o with
  | some (b, 0) => ((s.blockWords b).getD 0 0, s.fillLatch b)
  | some (b, k) => (((s.pass.latches[b.latch]).getD (s.blockWords b)).getD k 0, s)
  | none =>
    (s.unlatchedWord o,
      match headAt? o with
      | some h => if s.weigh.heads[h].last.isNone then s.setChoice (s.choice + 1) else s
      | none => s)

/-! ## The channel status word (R180) -/

/-- R180. -/
def State.channelStatus (s : State) : Word :=
  (List.finRange 10).foldl (fun acc c => if s.chans[c].phase = .idle then acc else acc ||| BitVec.twoPow 32 c.val)
    (if s.maps.inFlight then BitVec.twoPow 32 10 else 0)

end Sys2Proof.Machine
end

