-- ==== Sys2Proof/Machine/MapUnit.lean ====
section
/-! DEFINITION. The Map Unit (chapter 9): the checks of the validation decision, the refusal and the switch. -/

namespace Sys2Proof.Machine

/-- The reasons of Table 9-2. -/
inductive CommitReason where
  | window | ring | readIndex | zoneMap | limits | recipe | lines | inUse
deriving DecidableEq, Repr

/-- Table 9-2. -/
def CommitReason.code : CommitReason → Byte
  | .window => 0x02
  | .ring => 0x03
  | .readIndex => 0x04
  | .zoneMap => 0x05
  | .limits => 0x06
  | .recipe => 0x07
  | .lines => 0x08
  | .inUse => 0x09

/-- Table 9-2: the reason GENERATION. -/
def generationReason : Byte := 0x01

/-- The commit word of a generation, a reason and an outcome (Table 11-2). -/
def commitWord (generation : BitVec 16) (reason outcome : Byte) : Word := outcome ++ reason ++ generation

/-! ## WINDOW and RING (R164) -/

/-- The byte address past a window. -/
def Window.limit (w : Window) : Nat := w.base + 4096 * w.pages

/-- Two windows share an address. -/
def Window.overlaps (a b : Window) : Bool := decide (a.base < b.limit) && decide (b.base < a.limit)

/-- A base that is not a multiple of 0x1000, or a last byte at or beyond the map page. -/
def Window.misplaced (w : Window) : Bool := w.base % 0x1000 != 0 || decide (Config.mapPage < w.limit)

/-- R164: WINDOW fails. -/
def CellMap.badWindow (m : CellMap) : Bool :=
  m.setpointW.misplaced || m.imageW.misplaced || m.commandW.misplaced || m.recordW.misplaced
    || m.setpointW.pages != 1 || m.imageW.pages != 1 || m.commandW.pages != 1
    || decide (m.recordW.pages < 1) || decide (64 < m.recordW.pages)
    || m.setpointW.overlaps m.imageW || m.setpointW.overlaps m.commandW || m.setpointW.overlaps m.recordW
    || m.imageW.overlaps m.commandW || m.imageW.overlaps m.recordW || m.commandW.overlaps m.recordW

/-- R164: RING fails. -/
def CellMap.badRing (m : CellMap) : Bool :=
  m.ringBase % 128 != 0 || decide (m.ringCap < 4) || decide (1024 < m.ringCap)
    || decide (m.ringBase < m.recordW.base) || decide (m.recordW.limit < m.ringBase + 128 * m.ringCap)

/-! ## READ INDEX (R165) -/

/-- The ring settings differ from those of the map in effect. -/
def CellMap.movesRing (new old : CellMap) : Bool := new.ringBase != old.ringBase || new.ringCap != old.ringCap

/-- R165: READ INDEX fails. -/
def badReadIndex (new old : CellMap) (first : Bool) (readIndex writeIndex : Nat) : Bool :=
  decide (new.ringCap ≤ readIndex)
    || (!first && new.movesRing old && readIndex != 0)
    || (first && decide (new.ringCap ≤ writeIndex) && readIndex != 0)

/-! ## ZONE MAP and LIMITS (R166) -/

/-- Some element stands twice. -/
def repeated {α : Type} [DecidableEq α] : List α → Bool
  | [] => false
  | x :: rest => rest.contains x || repeated rest

/-- The (position, channel) pairs of the mapped zones. -/
def CellMap.wirings (m : CellMap) : List (Nat × Nat) := (List.finRange 40).filterMap fun z => m.zones[z].wiring

/-- A zone entry whose position or channel ZONE MAP refuses. -/
def CellMap.badZone (m : CellMap) (e : ZoneEntry) : Bool :=
  match e.module? with
  | some p => decide (m.modules ≤ p.val) || decide (m.channels[p] ≤ e.channel)
  | none => e.position != 0xFF

/-- R166: ZONE MAP fails. -/
def CellMap.badZoneMap (m : CellMap) : Bool :=
  decide (10 < m.modules)
    || (List.finRange 10).any (fun p =>
        decide (p.val < m.modules) && (decide (m.channels[p] < 1) || decide (4 < m.channels[p])))
    || (List.finRange 40).any (fun z => m.badZone m.zones[z])
    || repeated m.wirings
    || (List.finRange 4).any (fun d => m.dayEnable.getLsbD d.val && (m.doseZones d).isEmpty)

/-- A zone entry whose limits are out of order or range. -/
def ZoneEntry.badLimits (e : ZoneEntry) : Bool :=
  decide (e.maximum < e.minimum) || decide (Config.tempMax < e.minimum) || decide (Config.tempMax < e.maximum)
    || decide (Config.tempMax < e.ramp) || decide (Config.tempMax < e.alarm)

/-- The zone's requested setpoint lies outside the limits of an entry. -/
def ZoneEntry.excludes (e : ZoneEntry) (request : Option Nat) : Bool :=
  match request with
  | some r => decide (r < e.minimum) || decide (e.maximum < r)
  | none => false

/-- R166: LIMITS fails. -/
def CellMap.badLimits (m : CellMap) (zones : Vector Zone 40) : Bool :=
  (List.finRange 40).any (fun z => m.zones[z].badLimits || m.zones[z].excludes zones[z].request)
    || decide (3 < m.baud) || decide (m.settle < 3) || decide (16 < m.settle)
    || decide (m.band < 1) || decide (1000 < m.band)

/-! ## RECIPE and LINES (R167) -/

/-- R167: a recipe marked valid with a field out of range. -/
def RecipeEntry.bad (r : RecipeEntry) : Bool :=
  r.valid && (decide (r.target < 1) || decide (r.tolerance < 0) || decide (r.minPly < 1)
    || decide (r.maxPlies < 1) || decide (20 < r.maxPlies) || decide (1440 < r.life)
    || decide (Config.tempMax < r.activation) || decide (r.maxCure < 1) || decide (r.maxGap < 1)
    || decide (6000 < r.maxGap) || decide (r.stroke < 50) || decide (5000 < r.stroke) || decide (3 < r.retries)
    || decide (10000 < r.dwell))

/-- R167: RECIPE fails. -/
def CellMap.badRecipe (m : CellMap) : Bool := (List.finRange 16).any fun r => m.recipes[r].bad

/-- R167: a line entry with a field out of range. A FUNCTION line names a function exactly when its function
and, where it is read, its daylight index lie in range. An UNUSED line's polarity counts as a field that its mode does
not read, and is not examined: the model's choice (log 39). -/
def LineEntry.bad (e : LineEntry) : Bool :=
  decide (3 < e.mode) || (e.mode == 3 && e.function?.isNone) || (e.mode != 0 && decide (1 < e.polarity))

/-- The functions of a line table, in line order. -/
def CellMap.functions (m : CellMap) : List LineFunction := (List.finRange 32).filterMap fun n => m.lines[n].function?

/-- R167: LINES fails; after the check for repeats, a function is held by one line or none. -/
def CellMap.badLines (m : CellMap) : Bool :=
  (List.finRange 32).any (fun n => m.lines[n].bad) || repeated m.functions
    || (List.finRange 4).any (fun d => m.dayEnable.getLsbD d.val
        && !(m.functions.contains (.closed d) && m.functions.contains (.eject d) && m.functions.contains (.ejected d)))

/-! ## IN USE (R168) -/

/-- R168: the weigh settings that a charge being built holds fixed. -/
def CellMap.weighChanged (new old : CellMap) : Bool :=
  new.baud != old.baud || new.settle != old.settle || new.band != old.band

/-- R168: IN USE fails for daylight `d`. -/
def State.dayInUse (s : State) (new : CellMap) (d : Fin 4) : Bool :=
  s.days[d].state != .vacant
    && (new.lineEntries d != s.cell.lineEntries d
      || (s.cell.dayEnable.getLsbD d.val && !new.dayEnable.getLsbD d.val))

/-- R168: IN USE fails for head `h`. -/
def State.headInUse (s : State) (new : CellMap) (h : Fin 4) : Bool :=
  s.weigh.heads[h].held.isSome && s.cell.headEnable.getLsbD h.val && !new.headEnable.getLsbD h.val

/-- R168: IN USE fails. -/
def State.inUse (s : State) (new : CellMap) : Bool :=
  (List.finRange 4).any (s.dayInUse new) || (List.finRange 4).any (s.headInUse new)
    || ((List.finRange 6).any (fun i => s.weigh.charges[i].state == .opened) && new.weighChanged s.cell)

/-! ## The decision (R164, R169, R170) -/

/-- R164: the first failing check of a fetched map, in the order of Table 9-2. -/
def State.commitFailure (s : State) (new : CellMap) (readIndex writeIndex : Nat) : Option CommitReason :=
  if new.badWindow then some .window
  else if new.badRing then some .ring
  else if badReadIndex new s.cell s.maps.first readIndex writeIndex then some .readIndex
  else if new.badZoneMap then some .zoneMap
  else if new.badLimits s.zones then some .limits
  else if new.badRecipe then some .recipe
  else if new.badLines then some .lines
  else if s.inUse new then some .inUse
  else none

/-- The reason for which the fetched copy is refused, if any. -/
def State.refusal (s : State) : Option CommitReason :=
  s.commitFailure (pageMap s.maps.copy) (pageReadIndex s.maps.copy) (pageWriteIndex s.maps.copy)

/-- The injected write of the commit word. -/
def MapUnit.stamp (u : MapUnit) (reason outcome : Byte) : QEntry :=
  ⟨mapAddr 0x018, commitWord u.commitGen reason outcome, .commitStamp⟩

/-- R169, R121: a refusal at the decision. -/
def State.refuseCommit (s : State) (reason : CommitReason) : State :=
  (((s.setMaps { s.maps with stage := .stamping, copy := [] }).inject (s.maps.stamp reason.code 0x50)).raise
    .commitRefused 0 reason.code).appendTest

/-! ## The switch (R171) -/

/-- R171: what makes the link start discovery besides the first commit. -/
def CellMap.linkChanged (new old : CellMap) : Bool :=
  (List.finRange 40).any (fun z => new.zones[z].wiring != old.zones[z].wiring) || new.modules != old.modules
    || (List.finRange 10).any (fun p => decide (p.val < new.modules) && new.channels[p] != old.channels[p])

/-- R43: a zone at the switch. -/
def Zone.switch (z : Zone) (old new : ZoneEntry) : Zone :=
  let y : Zone := if new.alarm = old.alarm then z else { z with latched := false }
  if new.wiring = old.wiring then y else { y with status := .disabled, tripMemory := false }

/-- R124: the serial after the fetched last one. -/
def afterSerial (last : Nat) : Nat := min 0xFFFFFFFF (last + 1)

/-- R125: a write of 0 to the write-index word is called for. -/
def zeroesIndex (old new : CellMap) (first : Bool) (writeIndex : Nat) : Bool :=
  if first then decide (new.ringCap ≤ writeIndex) else new.movesRing old

/-- R125: the write index in effect after the switch; `kept` is the one before it. -/
def switchedWrite (old new : CellMap) (first : Bool) (writeIndex kept : Nat) : Nat :=
  if zeroesIndex old new first writeIndex then 0 else if first then writeIndex else kept

/-- R124, R125: the History Unit at the switch. -/
def History.switch (h : History) (old new : CellMap) (first : Bool) (copy : List Word) : History :=
  { h with
    counter := max h.counter (max (pageFloor copy) (afterSerial (pageLastSerial copy)))
    ring := some { base := new.ringBase, cap := new.ringCap, read := pageReadIndex copy }
    write := switchedWrite old new first (pageWriteIndex copy) h.write }

/-- R23: the Heat Link Controller at the switch; the map in effect is already the new one. -/
def State.switchLink (s : State) (old : CellMap) (first : Bool) : State :=
  if first = true ∨ s.cell.linkChanged old = true then s.takeLink (s.link.startDiscovery s.cell) else s

/-- R136, R43, R90, R108, R124, R125: the blocks that take their part of the new map. -/
def State.switchBlocks (s : State) (old : CellMap) (first : Bool) (copy : List Word) : State :=
  (((((s.setAtt { s.att with mask := pageMask copy }).setHist (s.hist.switch old s.cell first copy)).setZones
    (Vector.ofFn fun z => s.zones[z].switch old.zones[z] s.cell.zones[z])).setWeigh
    (s.weigh.switch old s.cell first)).setLines
    (Vector.ofFn fun n => s.lines[n].switch old.lines[n] s.cell.lines[n])).setPass { s.pass with mapped := true }

/-- R171: the Map Unit's own step: the fetched map takes effect. -/
def MapUnit.switched (u : MapUnit) : MapUnit :=
  { u with map := some (pageMap u.copy), generation := u.commitGen, first := false, stage := .stamping }

/-- R125, R171: the Map Unit's writes, in order. -/
def switchWrites (u : MapUnit) (old : CellMap) : List QEntry :=
  (if zeroesIndex old (pageMap u.copy) u.first (pageWriteIndex u.copy) then [⟨mapAddr 0x014, 0, .indexZero⟩] else [])
    ++ [u.stamp 0 0x02]

/-- R171: the switch. A link completion it brings about is placed before the Map Unit's writes (log 29). -/
def State.switchMap (s : State) : State :=
  ((((((s.setMaps s.maps.switched).switchBlocks s.cell s.maps.first s.maps.copy).switchLink s.cell
    s.maps.first).injectAll (switchWrites s.maps s.cell)).raise .commitAccepted 0
    (s.maps.commitGen.extractLsb' 0 8)).appendTest)

/-- R170: a commit in SWITCHING switches as soon as no append is in progress. -/
def State.trySwitch (s : State) : State :=
  if s.maps.stage = .switching ∧ s.hist.append = none then s.switchMap else s

/-- R164, R169, R170: the validation decision. -/
def State.decideCommit (s : State) : State :=
  if s.maps.stage = .validating then
    match s.refusal with
    | some reason => s.refuseCommit reason
    | none => (s.setMaps { s.maps with stage := .switching }).trySwitch
  else s

/-! ## Taking a commit (R161, R162) -/

/-- R161 step 3, R162: the commit is taken; the boundary stands behind the entries now in the queue. -/
def State.startCommit (s : State) (generation : BitVec 16) : State :=
  (s.setMaps { s.maps with
    stage := if s.pass.queue = [] then .fetching else .waiting
    commitGen := generation
    copy := [] }).setPass { s.pass with boundary := some s.pass.queue.length }

/-- R162: a waiting commit whose entries have all reached memory enters FETCHING. -/
def State.startFetch (s : State) : State :=
  if s.maps.stage = .waiting ∧ s.pass.boundary = some 0 then s.setMaps { s.maps with stage := .fetching } else s

/-- R172, R121: the commit's stamp has reached memory. -/
def State.endCommit (s : State) : State :=
  if s.maps.stage = .stamping then (s.setMaps { s.maps with stage := .idle, copy := [] }).appendTest else s

/-- R173: a cell reset abandons a commit that is not yet in STAMPING. -/
def State.abandonCommit (s : State) : State :=
  if s.maps.stage = .stamping then s
  else (s.setMaps { s.maps with stage := .idle, copy := [] }).setPass { s.pass with boundary := none }

end Sys2Proof.Machine
end

