-- ==== Sys2Proof/Machine/Zones.lean ====
section
/-! DEFINITION. The Zone Unit (chapter 2): the derivation of one zone at a sweep end, the reports to the
daylights, and the setpoint writes the Memory Passage hands over. -/

namespace Sys2Proof.Machine

/-- What the derivation of one zone gives: its record and what it raises. -/
structure ZoneStep where
  zone         : Zone
  tripped      : Bool
  sensorFailed : Bool
  overtemp     : Option Nat
  notApplied   : Bool
deriving DecidableEq, Repr

/-- A derivation that raises nothing. -/
def ZoneStep.quiet (z : Zone) : ZoneStep := ⟨z, false, false, none, false⟩

/-- R25, R40: a zone that is ABSENT. -/
def Zone.toAbsent (z : Zone) : Zone :=
  let y : Zone := { z with rstate := .absent, reading := none, heldCount := 0, applied := none }
  if z.delivery = .delivered then { y with delivery := .pending, counter := 0, notApplied := false } else y

/-- R38, R39: the delivery of a zone that is not ABSENT; `echo` is the held setpoint of a fresh module. -/
def Zone.deliver (z : Zone) (echo : Option Nat) : Zone × Bool :=
  let y : Zone :=
    if z.delivery = .pending ∧ echo.isSome = true ∧ echo = z.request then
      { z with applied := z.request, delivery := .delivered }
    else z
  if y.delivery = .pending then
    let counted : Zone := { y with counter := min Config.notAppliedAt (y.counter + 1) }
    if counted.counter = Config.notAppliedAt ∧ counted.notApplied = false then
      ({ counted with notApplied := true }, true)
    else (counted, false)
  else (y, false)

/-- R27: a zone whose module is PRESENT but held. -/
def Zone.toHeld (z : Zone) : Zone :=
  let n := min Config.staleAt (z.heldCount + 1)
  match z.rstate with
  | .fresh => { z with heldCount := n, rstate := if n < Config.staleAt then .held else .stale }
  | .held => { z with heldCount := n, rstate := if n < Config.staleAt then .held else .stale }
  | .stale => { z with heldCount := n }
  | .failed => { z with heldCount := n, reading := none }
  | .absent => { z with heldCount := n, rstate := .stale, reading := none }

/-- R30: the excess of a reading over the alarm, in whole degrees, at most 255. -/
def overtempExcess (reading alarm : Nat) : Nat := min 255 ((reading - alarm) / 10)

/-- R30: the overtemperature latch of a FRESH zone; the excess when it latches. -/
def Zone.overtempTest (z : Zone) (alarm reading : Nat) : Zone × Option Nat :=
  if z.latched then (if reading < alarm - 50 then { z with latched := false } else z, none)
  else if alarm < reading then ({ z with latched := true }, some (overtempExcess reading alarm))
  else (z, none)

/-- R26, R30: a zone that a fresh section makes FRESH with a reading. -/
def Zone.toFresh (z : Zone) (alarm temp : Nat) : Zone × Option Nat :=
  Zone.overtempTest { z with rstate := .fresh, reading := some (min Config.tempMax temp) } alarm
    (min Config.tempMax temp)

/-- R26, R28, R29, R38: a zone whose module is fresh. -/
def Zone.toSection (z : Zone) (alarm : Nat) (status : ChannelStatus) (temp echo : Nat) : ZoneStep :=
  let z0 : Zone := { z with status := status, heldCount := 0 }
  match status with
  | .disabled => ZoneStep.quiet z0.toAbsent
  | .sensorBreak =>
    let y := ({ z0 with rstate := .failed, reading := none, tripMemory := false } : Zone).deliver (some echo)
    ⟨y.1, false, z.rstate != .failed, none, y.2⟩
  | .ok =>
    let x := ({ z0 with tripMemory := false } : Zone).toFresh alarm temp
    let y := x.1.deliver (some echo)
    ⟨y.1, false, false, x.2, y.2⟩
  | .tripped =>
    let x := ({ z0 with tripMemory := true } : Zone).toFresh alarm temp
    let y := x.1.deliver (some echo)
    ⟨y.1, !z.tripMemory, false, x.2, y.2⟩

/-- R25 to R30, R38 to R40: the derivation of one zone at a sweep end. -/
def Zone.derive (z : Zone) (e : ZoneEntry) (r : ModuleReport) : ZoneStep :=
  match r with
  | .notPresent => ZoneStep.quiet z.toAbsent
  | .held =>
    let y := z.toHeld.deliver none
    ⟨y.1, false, false, none, y.2⟩
  | .fresh rd =>
    if h : e.channel < 4 then z.toSection e.alarm rd.status[e.channel] rd.temps[e.channel] rd.held[e.channel]
    else ZoneStep.quiet z.toAbsent

/-- The report that names a zone's module; an unmapped zone has none. -/
def zoneReport (e : ZoneEntry) (reports : Vector ModuleReport 10) : ModuleReport :=
  match e.module? with
  | some p => reports[p]
  | none => .notPresent

/-- The derivation of every zone (R25). -/
def deriveZones (m : CellMap) (zones : Vector Zone 40) (reports : Vector ModuleReport 10) : Vector ZoneStep 40 :=
  Vector.ofFn fun z => zones[z].derive m.zones[z] (zoneReport m.zones[z] reports)

/-- The causes a derivation raises (Table 2-6). -/
def ZoneStep.causes (x : ZoneStep) (z : Fin 40) : List Report :=
  (if x.tripped then [.cause .zoneTripped (byteOf z.val) 0] else [])
    ++ (if x.sensorFailed then [.cause .zoneSensorFailed (byteOf z.val) 0] else [])
    ++ (match x.overtemp with
        | some n => [.cause .zoneOvertemp (byteOf z.val) (byteOf n)]
        | none => [])
    ++ (if x.notApplied then [.cause .setpointNotApplied (byteOf z.val) 0] else [])

/-- R112: the flags the reports of R31 set in the open record of daylight `d`. -/
def OpenRecord.warn (r : OpenRecord) (m : CellMap) (steps : Vector ZoneStep 40) (d : Fin 4) : OpenRecord :=
  { r with
    overtemp := r.overtemp || (m.doseZones d).any fun z => steps[z].overtemp.isSome
    notApplied := r.notApplied || (List.finRange 40).any fun z => adjacent z d && steps[z].notApplied }

/-- R25 to R31: the Zone Unit at a sweep end. -/
def State.zoneUnit (s : State) (reports : Vector ModuleReport 10) : State :=
  let steps := deriveZones s.cell s.zones reports
  ((s.setZones (Vector.ofFn fun z => steps[z].zone)).report
      ((List.finRange 40).flatMap fun z => steps[z].causes z)).setDays
    (Vector.ofFn fun d => { s.days[d] with record := s.days[d].record.map fun r => r.warn s.cell steps d })

/-! ## Setpoint writes (R32 to R37) -/

/-- The reasons of Table 2-3. -/
inductive SetpointReason where
  | unmapped | linkUnavailable | limit | ramp
deriving DecidableEq, Repr

/-- Table 2-3. -/
def SetpointReason.code : SetpointReason → Byte
  | .unmapped => 0x01
  | .linkUnavailable => 0x02
  | .limit => 0x03
  | .ramp => 0x04

/-- R37: the least value a zone accepts: the greater of the two minimums in the fetched interval. -/
def State.lowLimit (s : State) (z : Fin 40) : Nat :=
  match s.maps.fetched with
  | some f => max s.cell.zones[z].minimum f.zones[z].minimum
  | none => s.cell.zones[z].minimum

/-- R37: the greatest value a zone accepts: the lesser of the two maximums in the fetched interval. -/
def State.highLimit (s : State) (z : Fin 40) : Nat :=
  match s.maps.fetched with
  | some f => min s.cell.zones[z].maximum f.zones[z].maximum
  | none => s.cell.zones[z].maximum

/-- R33 step 4: the value is within the ramp step of the requested setpoint. -/
def rampOk (ramp : Nat) (request : Option Nat) (value : Nat) : Bool :=
  match request with
  | none => true
  | some r => ramp == 0 || (decide (value ≤ r + ramp) && decide (r ≤ value + ramp))

/-- R33 steps 3 and 4: the limit and ramp checks of one zone. -/
def State.valueRefusal (s : State) (z : Fin 40) (value : Nat) : Option SetpointReason :=
  if value < s.lowLimit z ∨ s.highLimit z < value then some .limit
  else if rampOk s.cell.zones[z].ramp s.zones[z].request value then none
  else some .ramp

/-- R33: the refusal of a write to zone `z`, if any. -/
def State.zoneRefusal (s : State) (z : Fin 40) (value : Nat) : Option SetpointReason :=
  if s.cell.zones[z].mapped = false then some .unmapped
  else if s.link.state ≠ .running then some .linkUnavailable
  else s.valueRefusal z value

/-- R34: a changed request begins a new delivery episode. -/
def Zone.ask (z : Zone) (value : Nat) : Zone :=
  if z.request = some value then z
  else { z with request := some value, delivery := .pending, counter := 0, notApplied := false }

/-- R33, R34: a setpoint write handed to the Zone Unit for zone `z`. -/
def State.zoneWrite (s : State) (z : Fin 40) (value : Nat) : State :=
  match s.zoneRefusal z value with
  | some reason => s.raise .setpointRefused (byteOf z.val) reason.code
  | none =>
    if s.zones[z].request = some value then s
    else (s.setZone z (s.zones[z].ask value)).noteChange z z.val s.zones[z].request value

/-- The mapped zones of platen `p`, in zone order. -/
def CellMap.platenZones (m : CellMap) (p : Fin 5) : List (Fin 40) :=
  (List.finRange 40).filter fun z => z.val / 8 == p.val && m.zones[z].mapped

/-- The first zone of platen `p`, which stands for the platen's adjacency. -/
def platenZone (p : Fin 5) : Fin 40 := ⟨8 * p.val, by omega⟩

/-- R35 step 3: the first failing zone of a broadcast and its reason. -/
def State.broadcastFailure (s : State) (zs : List (Fin 40)) (value : Nat) : Option (Fin 40 × SetpointReason) :=
  zs.findSome? fun z => (s.valueRefusal z value).map fun reason => (z, reason)

/-- R35: the refusal of a broadcast: the source and the reason. -/
def State.broadcastRefusal (s : State) (p : Fin 5) (value : Nat) : Option (Byte × SetpointReason) :=
  if s.cell.platenZones p = [] then some (byteOf (0x40 + p.val), .unmapped)
  else if s.link.state ≠ .running then some (byteOf (0x40 + p.val), .linkUnavailable)
  else (s.broadcastFailure (s.cell.platenZones p) value).map fun f => (byteOf f.1.val, f.2)

/-- R35, R36: a broadcast handed to the Zone Unit for platen `p`. -/
def State.platenWrite (s : State) (p : Fin 5) (value : Nat) : State :=
  match s.broadcastRefusal p value with
  | some (source, reason) => s.raise .setpointRefused source (reason.code + 0x80)
  | none =>
    if (s.cell.platenZones p).all fun z => s.zones[z].request == some value then s
    else
      (s.setZones (Vector.ofFn fun z =>
        if (s.cell.platenZones p).contains z then s.zones[z].ask value else s.zones[z])).noteChange
        (platenZone p) (0x80 + p.val) none value

end Sys2Proof.Machine
end

