-- ==== Sys2Proof/Machine/Passage.lean ====
section
/-! DEFINITION. The Memory Passage (chapter 8): classification and disposition of host accesses, the arbiter, the
host port, and the part side's cycles. -/

namespace Sys2Proof.Machine

/-! ## Classification (R145) -/

/-- Where an access falls, with the byte offset of its word. -/
inductive Region where
  | mapPage (o : Nat) | setpoint (o : Nat) | image (o : Nat) | command (o : Nat) | record (o : Nat) | plain
deriving DecidableEq, Repr

/-- The window holds a byte address. -/
def Window.covers (w : Window) (a : Nat) : Bool := decide (w.base ≤ a) && decide (a < w.limit)

/-- R145: the first match decides. -/
def State.region (s : State) (addr : Addr) : Region :=
  let a := wordBase addr
  if Config.mapPage ≤ a then .mapPage (a - Config.mapPage)
  else if s.pass.mapped = false then .plain
  else if s.cell.setpointW.covers a then .setpoint (a - s.cell.setpointW.base)
  else if s.cell.imageW.covers a then .image (a - s.cell.imageW.base)
  else if s.cell.commandW.covers a then .command (a - s.cell.commandW.base)
  else if s.cell.recordW.covers a then .record (a - s.cell.recordW.base)
  else .plain

/-! ## Dispositions (R143) -/

/-- What becomes of an access at its taking. -/
inductive Disposition where
  /-- A read completes with a word of the part. -/
  | served (data : Word)
  /-- A write completes with no memory cycle. -/
  | suppressed
  /-- The access has one memory cycle. -/
  | passed (c : Cycle)
  /-- R153: a RECORD read waits until `left` more queue entries have reached memory. -/
  | held (left : Nat)
deriving DecidableEq, Repr

/-- An access passed as the host made it. -/
def Access.pass (a : Access) : Disposition := .passed ⟨a, none⟩

/-- A host write passed with its data rewritten. -/
def Access.passWith (a : Access) (data : Word) (channel : Option (Fin 10)) : Disposition :=
  .passed ⟨{ a with data := some data }, channel⟩

/-- The byte enables as a cause detail. -/
def Access.enableByte (a : Access) : Byte := BitVec.setWidth 8 a.enables

/-- A partial write of window kind `source` is held back (R147, R149, R176). -/
def State.partialWrite (s : State) (a : Access) (source : Byte) : Disposition × State :=
  (.suppressed, s.raise .partialWrite source a.enableByte)

/-- A write that no owner takes (R149, R150, R152, R153). -/
def State.ownedWrite (s : State) (source page : Byte) : Disposition × State :=
  (.suppressed, s.raise .writeToOwnedWindow source page)

/-! ## The map page (R146, R147) -/

/-- R137: the class mask written is the mask in effect. -/
def State.takeMask (s : State) (data : Word) : State := s.setAtt { s.att with mask := data.extractLsb' 0 6 }

/-- R117: the read index becomes `value`, and the append test is applied. -/
def State.moveRead (s : State) (r : Ring) (value : Nat) : State :=
  (s.setHist { s.hist with ring := some { r with read := value } }).appendTest

/-- R117: the History Unit's decision on a read-index write. The ring is there whenever the passage is MAPPED
(log 19). -/
def State.takeReadIndex (s : State) (value : Nat) : State :=
  match s.hist.ring with
  | none => s
  | some r =>
    if r.cap ≤ value then s.raise .ringIndexInvalid 0 0x01
    else if s.hist.append.any fun w => value == (w + 1) % r.cap then s.raise .ringIndexInvalid 0 0x02
    else s.moveRead r value

/-- R161: the Map Unit's decision on a full-word commit write. -/
def State.takeCommit (s : State) (a : Access) (data : Word) : Disposition × State :=
  let generation := data.extractLsb' 0 16
  if s.maps.inFlight then (.suppressed, s.raise .commandWhileBusy 10 0)
  else if generation = 0 ∨ generation = s.maps.generation then
    (a.passWith (commitWord generation generationReason 0x50) none, s.raise .commitRefused 0 generationReason)
  else (a.passWith (commitWord generation 0 0x01) none, s.startCommit generation)

/-- R147: a full-word write of a taken word, or a partial one held back. -/
def State.takenWord (s : State) (a : Access) (taken : Disposition × State) : Disposition × State :=
  if a.enables = 0xF#4 then taken else s.partialWrite a 0

/-- Table 8-2: a write to the map page. -/
def State.mapPageWrite (s : State) (a : Access) (o : Nat) (data : Word) : Disposition × State :=
  if o = 0x000 ∨ o = 0x004 ∨ o = 0x00C ∨ o = 0x014 ∨ o = 0x01C then (.suppressed, s)
  else if o = 0x018 then s.takenWord a (s.takeCommit a data)
  else if o = 0x008 ∧ s.pass.mapped = true then s.takenWord a (a.pass, s.takeMask data)
  else if o = 0x010 ∧ s.pass.mapped = true then s.takenWord a (a.pass, s.takeReadIndex data.toNat)
  else (a.pass, s)

/-- Table 8-2: a read of the map page. -/
def State.mapPageRead (s : State) (a : Access) (o : Nat) : Disposition × State :=
  if o = 0x000 then (.served identityWord, s)
  else if o = 0x004 then (.served s.att.word, s.setAtt s.att.afterRead)
  else if o = 0x00C then (.served s.att.countWord, s)
  else (a.pass, s)

/-! ## The windows (R149 to R153) -/

/-- R149: bytes 0 and 1 are both enabled. -/
def Access.lowHalf (a : Access) : Bool := a.enables.getLsbD 0 && a.enables.getLsbD 1

/-- R149: the value of a setpoint write. -/
def setpointValue (data : Word) : Nat := (data.extractLsb' 0 16).toNat

/-- R149: a write to the SETPOINT window. -/
def State.setpointWrite (s : State) (a : Access) (o : Nat) (data : Word) : Disposition × State :=
  match zoneAt? o, platenAt? o with
  | some z, _ => if a.lowHalf then (.suppressed, s.zoneWrite z (setpointValue data)) else s.partialWrite a 1
  | none, some p => if a.lowHalf then (.suppressed, s.platenWrite p (setpointValue data)) else s.partialWrite a 1
  | none, none => s.ownedWrite 1 0

/-- R152, R176 tests 3 to 5: a full-word write on channel `c`. -/
def State.channelWrite (s : State) (a : Access) (c : Fin 10) (data : Word) : Disposition × State :=
  if s.channelBusy c (wordByte data 0) then
    (.suppressed, s.raise .commandWhileBusy (byteOf c.val) (wordByte data 0))
  else
    let r := s.ownerDecision c (stampOf data a.addr)
    (a.passWith (withOutcome data r.1) (if r.1 = 0x01 then some c else none), r.2)

/-- The channel whose word stands at an offset of the COMMAND window. -/
def channelAt? (o : Nat) : Option (Fin 10) := if h : o / 4 < 10 then some ⟨o / 4, h⟩ else none

/-- R152, R176: a write to the COMMAND window. -/
def State.commandWrite (s : State) (a : Access) (o : Nat) (data : Word) : Disposition × State :=
  match channelAt? o with
  | none => s.ownedWrite 3 0
  | some c => if a.enables = 0xF#4 then s.channelWrite a c data else s.partialWrite a 3

/-- The number of entries up to and including the last that satisfies a test; 0 when none does. -/
def lastMatch {α : Type} (p : α → Bool) : List α → Nat
  | [] => 0
  | x :: rest => if lastMatch p rest ≠ 0 then lastMatch p rest + 1 else if p x then 1 else 0

/-- R153: how many entries must leave the queue before every queued write to the address has reached memory. -/
def Passage.hazard (p : Passage) (addr : Addr) : Nat :=
  lastMatch (fun e : QEntry => wordBase e.addr == wordBase addr) p.queue

/-- R153: a read of the RECORD window. -/
def State.recordRead (s : State) (a : Access) : Disposition × State :=
  if s.pass.hazard a.addr = 0 then (a.pass, s) else (.held (s.pass.hazard a.addr), s)

/-- R143 to R153: the disposition of an access, and the state after its taking. -/
def State.classify (s : State) (a : Access) : Disposition × State :=
  match s.region a.addr, a.data with
  | .mapPage o, some data => s.mapPageWrite a o data
  | .mapPage o, none => s.mapPageRead a o
  | .setpoint o, some data => s.setpointWrite a o data
  | .setpoint o, none => (.served (s.setpointWord o), s)
  | .image _, some _ => s.ownedWrite 2 0
  | .image o, none => (.served (s.imageRead o).1, (s.imageRead o).2)
  | .command o, some data => s.commandWrite a o data
  | .command o, none => if o = 0x28 then (.served s.channelStatus, s) else (a.pass, s)
  | .record o, some _ => s.ownedWrite 4 (byteOf (o / 4096))
  | .record _, none => s.recordRead a
  | .plain, _ => (a.pass, s)

/-! ## The host port and the arbiter (R143, R148, R155) -/

/-- Replace the host port's access and its last reply. -/
def State.setPort (s : State) (p : Port) (r : Reply) : State := s.setPass { s.pass with port := p, reply := r }

/-- The access ends in its disposition. -/
def State.dispose (s : State) (a : Access) (d : Disposition) : State :=
  match d with
  | .served w => s.setPort .idle (.read w)
  | .suppressed => s.setPort .idle .wrote
  | .passed c => s.setPort (.claiming c) .none
  | .held left => s.setPort (.heldRecord a left) .none

/-- R148: the fetch runs: from the first fetch read, whose cycle is whole (log 22), to the end of the last. -/
def State.fetchRuns (s : State) : Bool := s.maps.stage == .fetching && !s.maps.copy.isEmpty

/-- R148: the access is to the map page while the fetch runs. -/
def State.fetchHolds (s : State) (a : Access) : Bool := s.fetchRuns && decide (Config.mapPage ≤ wordBase a.addr)

/-- R143, R148: the passage takes an access. -/
def State.takeAccess (s : State) (a : Access) : State :=
  if s.fetchHolds a then s.setPort (.heldFetch a) .none
  else (s.classify a).2.dispose a (s.classify a).1

/-- R156: the entry at the head of the queue is offered. -/
def State.queueOffered (s : State) : Bool :=
  match s.maps.stage with
  | .fetching => false
  | .waiting => s.pass.boundary != some 0 && !s.pass.queue.isEmpty
  | .idle => !s.pass.queue.isEmpty
  | .validating => !s.pass.queue.isEmpty
  | .switching => !s.pass.queue.isEmpty
  | .stamping => !s.pass.queue.isEmpty

/-- R155: the part side waits for the port. -/
def State.partWaits (s : State) : Bool := s.maps.stage == .fetching || s.queueOffered

/-- R155: the host side is granted. -/
def State.hostGranted (s : State) : Bool := !(s.partWaits && decide (Config.starvation ≤ s.pass.queue.length))

/-- R143: the memory cycle of a passed access. -/
def State.memoryCycle (s : State) (a : Access) : State :=
  match a.data with
  | some w => (s.setMem (writeWord s.mem (wordBase a.addr) a.enables w)).setPort .idle .wrote
  | none => s.setPort .idle (.read (readWord s.mem (wordBase a.addr)))

/-- R178: the host's write of the command named in the stamp word has reached memory. An IDLE channel names none. -/
def State.commandReached (s : State) (c : Fin 10) : State :=
  if s.chans[c].phase = .idle then s else (s.setChan c { s.chans[c] with written := true }).placeStamp c

/-- The host side's cycle, whole. -/
def State.hostCycle (s : State) (c : Cycle) : State :=
  match c.channel with
  | some ch => (s.memoryCycle c.access).commandReached ch
  | none => s.memoryCycle c.access

/-- R155: the arbiter grants the host side when it may. -/
def State.arbitrate (s : State) : State :=
  match s.pass.port with
  | .claiming c => if s.hostGranted then s.hostCycle c else s
  | .idle => s
  | .heldFetch _ => s
  | .heldRecord _ _ => s

/-- The port is free. -/
def State.portIdle (s : State) : Bool := s.pass.port == .idle

/-- R143: the host presents its next accesses one by one as the port falls free; what has been reported by then is
offered before the access is taken (log 8). -/
def State.present (s : State) : List Access → State
  | [] => s.setPass { s.pass with upcoming := [] }
  | a :: rest =>
    if s.portIdle then ((s.deliver.takeAccess a).arbitrate).present rest
    else s.setPass { s.pass with upcoming := a :: rest }

/-- The port goes on after the state behind it has changed. -/
def State.resumePort (s : State) : State := s.arbitrate.present s.arbitrate.pass.upcoming

/-- A host access: taken at once when the port is free, otherwise behind those already waiting (log 8). -/
def State.hostAccess (s : State) (a : Access) : State := s.present (s.pass.upcoming ++ [a])

/-! ## The part side's cycles (R153, R154, R156, R162) -/

/-- R153: one more queue entry has reached memory. -/
def Port.countDown : Port → Port
  | .heldRecord a left => if left ≤ 1 then .claiming ⟨a, none⟩ else .heldRecord a (left - 1)
  | .idle => .idle
  | .heldFetch a => .heldFetch a
  | .claiming c => .claiming c

/-- R154, R156: the head of the queue leaves it, and the place it frees is filled. -/
def Passage.pop (p : Passage) (rest : List QEntry) : Passage :=
  Passage.fill { p with
    queue := rest
    boundary := p.boundary.map fun n => n - 1
    port := p.port.countDown }

/-- R119: the index word of the append in progress has reached memory. -/
def State.endAppend (s : State) : State :=
  match s.hist.ring, s.hist.append with
  | some r, some w =>
    (s.setHist { s.hist with
      write := (w + 1) % r.cap
      occupied := s.hist.occupied - 1
      oldest := nextPosition s.hist.oldest
      append := none }).trySwitch.appendTest
  | _, _ => s

/-- R154: the report to the producer of a write that has reached memory. A stamped channel's abort flag is cleared with
its stamp, the model's choice (R178, log 36). -/
def State.reachedMemory (s : State) (p : Purpose) : State :=
  match p with
  | .indexWord => s.endAppend
  | .stamp c => s.setChan c Channel.powerOn
  | .commitStamp => s.endCommit
  | .recordWord => s
  | .lastSerial => s
  | .indexZero => s

/-- R154: the entry `e` at the head of the queue reaches memory, `rest` behind it. What the arrival places in the queue
is placed before the port it frees is granted, the model's choice (R159, log 35). -/
def State.entryReaches (s : State) (e : QEntry) (rest : List QEntry) : State :=
  ((((s.setMem (writeWord s.mem (wordBase e.addr) 0xF#4 e.data)).setPass (s.pass.pop rest)).reachedMemory
    e.purpose).startFetch).resumePort

/-- R154, R156: the entry at the head of the queue, when it is offered, reaches memory. -/
def State.injectedWrite (s : State) : State :=
  match s.pass.queue with
  | [] => s
  | e :: rest => if s.queueOffered then s.entryReaches e rest else s

/-- R154: the write that would reach memory next serves a purpose. -/
def State.nextServes (s : State) (p : Purpose) : Bool :=
  s.queueOffered && (s.pass.queue.head?.map QEntry.purpose) == some p

/-- R154: the write at the queue's head reaches memory, when it serves a purpose. -/
def State.purposeReaches (s : State) (p : Purpose) : State := if s.nextServes p then s.injectedWrite else s

/-- R148: the access held by the fetch is taken against the state as it now stands. -/
def State.releaseFetch (s : State) : State :=
  match s.pass.port with
  | .heldFetch a => (s.setPort .idle .none).takeAccess a
  | .idle => s
  | .heldRecord _ _ => s
  | .claiming _ => s

/-- R162: the next word of the map page. -/
def State.fetchedWord (s : State) : Word := readWord s.mem (Config.mapPage + 4 * s.maps.copy.length)

/-- R162: the last fetch read ends: the boundary goes, and the commit enters VALIDATING. -/
def State.endFetch (s : State) : State :=
  (((s.setMaps { s.maps with stage := .validating }).setPass { s.pass with boundary := none }).releaseFetch).resumePort

/-- R162: one fetch read. -/
def State.fetchStep (s : State) : State :=
  if s.maps.stage = .fetching then
    let s1 := s.setMaps { s.maps with copy := s.maps.copy ++ [s.fetchedWord] }
    if s1.maps.copy.length < Config.pageWords then s1 else s1.endFetch
  else s

/-! ## Cell reset (R157) -/

/-- R157, R173: the passage becomes UNMAPPED, every latch is emptied, a commit not yet in STAMPING is abandoned, and
a map-page access held by the fetch is classified under UNMAPPED. -/
def State.cellReset (s : State) : State :=
  (((s.setPass { s.pass with mapped := false, latches := Vector.replicate 11 none }).abandonCommit).releaseFetch).resumePort

end Sys2Proof.Machine
end

