-- ==== Sys2Proof/Machine/HostCommands.lean ====
section
/-! DEFINITION. The meanings of the host accesses. Each is one access at the host port, classified by its address
in the state it meets, whichever row carries it (R145, log 6). -/

namespace Sys2Proof.Machine

/-- The word of a command write (10.1). -/
def commandWord (code : Byte) (w : CommandWrite) : Word := wordOf code w.tag w.argument w.outcome

/-- The access of a command write. -/
def commandAccess (code : Byte) (w : CommandWrite) : Access := ⟨w.addr, w.enables, some (commandWord code w)⟩

/-- A host write. -/
def writeAccess (addr : Addr) (enables : Enables) (data : Word) : Access := ⟨addr, enables, some data⟩

/-- A host read of a whole word. -/
def readAccess (addr : Addr) : Access := ⟨addr, 0xF#4, none⟩

/-! ## The rows -/

/-- SETPOINT_WRITE (R33). -/
def execSetpointWrite (addr : Addr) (enables : Enables) (data : Word) (s : State) :
    Host.Outcome State Fault Refusal := (s.hostAccess (writeAccess addr enables data)).done

/-- PLATEN_BROADCAST_WRITE (R35). -/
def execPlatenBroadcastWrite (addr : Addr) (enables : Enables) (data : Word) (s : State) :
    Host.Outcome State Fault Refusal := (s.hostAccess (writeAccess addr enables data)).done

/-- RESTART_LINK (R21). -/
def execRestartLink (w : CommandWrite) (s : State) : Host.Outcome State Fault Refusal :=
  (s.hostAccess (commandAccess codeRestartLink w)).done

/-- LOAD (R48). -/
def execLoad (w : CommandWrite) (s : State) : Host.Outcome State Fault Refusal :=
  (s.hostAccess (commandAccess codeLoad w)).done

/-- DEMOULD (R57). -/
def execDemould (w : CommandWrite) (s : State) : Host.Outcome State Fault Refusal :=
  (s.hostAccess (commandAccess codeDemould w)).done

/-- ABORT (R59). -/
def execAbort (w : CommandWrite) (s : State) : Host.Outcome State Fault Refusal :=
  (s.hostAccess (commandAccess codeAbort w)).done

/-- SCRAP (R63). -/
def execScrap (w : CommandWrite) (s : State) : Host.Outcome State Fault Refusal :=
  (s.hostAccess (commandAccess codeScrap w)).done

/-- MANUAL_RELEASE (R64). -/
def execManualRelease (w : CommandWrite) (s : State) : Host.Outcome State Fault Refusal :=
  (s.hostAccess (commandAccess codeManualRelease w)).done

/-- SET_LINE (R96). -/
def execSetLine (w : CommandWrite) (s : State) : Host.Outcome State Fault Refusal :=
  (s.hostAccess (commandAccess codeSetLine w)).done

/-- OPEN_CHARGE (R79). -/
def execOpenCharge (w : CommandWrite) (s : State) : Host.Outcome State Fault Refusal :=
  (s.hostAccess (commandAccess codeOpenCharge w)).done

/-- CLOSE_CHARGE (R84). -/
def execCloseCharge (w : CommandWrite) (s : State) : Host.Outcome State Fault Refusal :=
  (s.hostAccess (commandAccess codeCloseCharge w)).done

/-- DISCARD_CHARGE (R86). -/
def execDiscardCharge (w : CommandWrite) (s : State) : Host.Outcome State Fault Refusal :=
  (s.hostAccess (commandAccess codeDiscardCharge w)).done

/-- UNKNOWN_CODE (R176). -/
def execUnknownCode (addr : Addr) (enables : Enables) (data : Word) (s : State) :
    Host.Outcome State Fault Refusal := (s.hostAccess (writeAccess addr enables data)).done

/-- READ_INDEX_WRITE (R117). -/
def execReadIndexWrite (enables : Enables) (data : Word) (s : State) : Host.Outcome State Fault Refusal :=
  (s.hostAccess (writeAccess (mapAddr 0x010) enables data)).done

/-- ATTENTION_READ (R138). -/
def execAttentionRead (s : State) : Host.Outcome State Fault Refusal :=
  (s.hostAccess (readAccess (mapAddr 0x004))).done

/-- PENDING_COUNT_READ (R139). -/
def execPendingCountRead (s : State) : Host.Outcome State Fault Refusal :=
  (s.hostAccess (readAccess (mapAddr 0x00C))).done

/-- CLASS_MASK_WRITE (R137). -/
def execClassMaskWrite (enables : Enables) (data : Word) (s : State) : Host.Outcome State Fault Refusal :=
  (s.hostAccess (writeAccess (mapAddr 0x008) enables data)).done

/-- IMAGE_BLOCK_FIRST_WORD_READ (R151). -/
def execImageBlockFirstWordRead (addr : Addr) (s : State) : Host.Outcome State Fault Refusal :=
  (s.hostAccess (readAccess addr)).done

/-- RECORD_READ (R153). -/
def execRecordRead (addr : Addr) (s : State) : Host.Outcome State Fault Refusal :=
  (s.hostAccess (readAccess addr)).done

/-- WRITE_TO_OWNED_WINDOW (R149, R150, R152, R153). -/
def execWriteToOwnedWindow (addr : Addr) (enables : Enables) (data : Word) (s : State) :
    Host.Outcome State Fault Refusal := (s.hostAccess (writeAccess addr enables data)).done

/-- COMMIT (R161). -/
def execCommit (enables : Enables) (data : Word) (s : State) : Host.Outcome State Fault Refusal :=
  (s.hostAccess (writeAccess (mapAddr 0x018) enables data)).done

end Sys2Proof.Machine
end

