-- ==== Sys2Proof/Machine/MemoryCommands.lean ====
section
/-! DEFINITION. The meanings of the part-side commands: the injection queue, stamps, appends and the stages of a
commit, and the resets. -/

namespace Sys2Proof.Machine

/-- R162: the fetch of a waiting commit starts: at once when nothing stands before the boundary, otherwise as the
last entry before it reaches memory. -/
def State.fetchStarts (s : State) : State :=
  if s.maps.stage = .waiting then
    if s.pass.boundary = some 0 then s.startFetch.resumePort
    else if s.pass.boundary = some 1 then s.injectedWrite
    else s
  else s

/-- R170, R171: the switch: of a commit in SWITCHING with no append in progress; of one whose append's index word is
the next write to reach memory; or of one whose copy the decision, taken now, accepts with no append in progress. -/
def State.switches (s : State) : State :=
  match s.maps.stage with
  | .switching => if s.hist.append.isNone then s.trySwitch else s.purposeReaches .indexWord
  | .validating => if s.refusal.isNone && s.hist.append.isNone then s.decideCommit else s
  | .idle => s
  | .waiting => s
  | .fetching => s
  | .stamping => s

/-- R154: a waiting write takes a free place of the queue; the port sees the queue as it now stands. -/
def State.placeWaiting (s : State) : State := (s.setPass s.pass.fill).resumePort

/-- R142, R158, R160, R175 and the blocks' own rules: every block at its power-on values; memory and what the
environment still has to send are outside the part (log 23). -/
def State.powerOn (s : State) : State :=
  ((State.reset.setMem s.mem).setPending s.pending).setChoice s.choice

/-! ## The rows -/

/-- POWER_ON_RESET (R160). -/
def execPowerOnReset (s : State) : Host.Outcome State Fault Refusal := s.powerOn.done

/-- CELL_RESET (R157). -/
def execCellReset (s : State) : Host.Outcome State Fault Refusal := s.cellReset.done

/-- STAMP_PLACED (R178). -/
def execStampPlaced (c : Fin 10) (s : State) : Host.Outcome State Fault Refusal := (s.placeStamp c).done

/-- COMPLETION_STAMP_REACHES_MEMORY (R178). -/
def execCompletionStampReachesMemory (c : Fin 10) (s : State) : Host.Outcome State Fault Refusal :=
  (s.purposeReaches (.stamp c)).done

/-- QUEUE_PLACE (R154). -/
def execQueuePlace (s : State) : Host.Outcome State Fault Refusal := s.placeWaiting.done

/-- INJECTED_WRITE_REACHES_MEMORY (R154). -/
def execInjectedWriteReachesMemory (s : State) : Host.Outcome State Fault Refusal := s.injectedWrite.done

/-- APPEND_BEGIN (R118). -/
def execAppendBegin (s : State) : Host.Outcome State Fault Refusal := s.appendTest.done

/-- APPEND_END (R119). -/
def execAppendEnd (s : State) : Host.Outcome State Fault Refusal := (s.purposeReaches .indexWord).done

/-- COMMIT_FETCH_START (R162). -/
def execCommitFetchStart (s : State) : Host.Outcome State Fault Refusal := s.fetchStarts.done

/-- FETCH_READ (R162). -/
def execFetchRead (s : State) : Host.Outcome State Fault Refusal := s.fetchStep.done

/-- VALIDATION_DECISION (R164). -/
def execValidationDecision (s : State) : Host.Outcome State Fault Refusal := s.decideCommit.done

/-- COMMIT_SWITCH (R171). -/
def execCommitSwitch (s : State) : Host.Outcome State Fault Refusal := s.switches.done

/-- COMMIT_STAMP_REACHES_MEMORY (R172). -/
def execCommitStampReachesMemory (s : State) : Host.Outcome State Fault Refusal := (s.purposeReaches .commitStamp).done

end Sys2Proof.Machine
end

