-- ==== Sys2Proof/Machine/SweepCommands.lean ====
section
/-! DEFINITION. The meanings of the commands of a sweep: the return frame, the sweep end, and the rows that name what
comes about inside a sweep end (log 5). -/

namespace Sys2Proof.Machine

/-- R4: bytes received while a sweep is in flight (log 16). -/
def State.receive (s : State) (bytes : List Byte) : State :=
  match s.link.inFlight with
  | none => s
  | some _ => s.setLink { s.link with received := s.link.received ++ bytes }

/-- The controller's step that the sweep end of this moment makes. -/
def State.sweepStep (s : State) : LinkStep := s.link.sweepStep s.cell

/-- R10: what the controller hands to the Zone Unit. -/
def State.sweepReports (s : State) : Vector ModuleReport 10 := Vector.ofFn (moduleReport s.link s.sweepStep.link)

/-- R2, R3: the next period begins. -/
def State.nextPeriod (s : State) : State := s.setLink (s.link.startPeriod s.cell s.zones)

/-- R10: the sweep end, in the order controller, Zone Unit, Daylight Unit, next period. -/
def State.sweepEnd (s : State) : State :=
  (((s.takeLink s.sweepStep).zoneUnit s.sweepReports).daylightUnit).nextPeriod

/-- A row that names what comes about inside a sweep end: the whole sweep end, when that comes about now (log 5). -/
def State.sweepWhen (s : State) (due : Bool) : State := if due then s.sweepEnd else s

/-- R8: the loss test of this sweep end breaks the chain at position `p`. -/
def State.lossDue (s : State) (p : Fin 10) : Bool :=
  s.sweepStep.reports.contains (.cause .moduleLost (byteOf p.val) (byteOf p.val))

/-- R12: this sweep end takes the link OFFLINE. -/
def State.offlineDue (s : State) : Bool := s.sweepStep.reports.contains (.cause .linkOffline 0 0)

/-- The report is a DISCOVERY SHORT. -/
def Report.isShort : Report → Bool
  | .cause k _ _ => k == .discoveryShort
  | .resolution _ _ => false

/-- R16: this sweep end ends discovery short. -/
def State.shortDue (s : State) : Bool := s.sweepStep.reports.any Report.isShort

/-- R19: after this sweep the head of the detail-fetch queue has ridden the command slot as often as it may,
without an answer. -/
def State.rideDue (s : State) : Bool :=
  match s.link.inFlight with
  | none => false
  | some w =>
    match w.slot with
    | .none => false
    | .discover _ => false
    | .detail p =>
      let l := (s.link.beforeDetail s.cell w).link
      !s.link.restarted && l.queue.head? == some p && (detailAnswer w (goodFrame s.link w) p).isNone
        && decide (Config.rideLimit ≤ l.ride + 1)

/-- A reading state that a STALE zone comes from (R27). -/
def ReadingState.live : ReadingState → Bool
  | .fresh => true
  | .held => true
  | .absent => false
  | .stale => false
  | .failed => false

/-- R27: this sweep end takes zone `z` from FRESH or HELD to STALE. -/
def State.staleDue (s : State) (z : Fin 40) : Bool := s.zones[z].rstate.live && s.sweepEnd.zones[z].rstate == .stale

/-- R39: this sweep end raises SETPOINT NOT APPLIED for zone `z`. -/
def State.notAppliedDue (s : State) (z : Fin 40) : Bool := !s.zones[z].notApplied && s.sweepEnd.zones[z].notApplied

/-- R54: this sweep end faults daylight `d` with a reason. -/
def State.cureFaultDue (s : State) (d : Fin 4) (reason : FaultReason) : Bool :=
  s.days[d].state == .curing && s.sweepEnd.days[d].state == .faulted && s.sweepEnd.days[d].fault == reason

/-! ## The rows -/

/-- SWEEP_END (R10). -/
def execSweepEnd (s : State) : Host.Outcome State Fault Refusal := s.sweepEnd.done

/-- RETURN_FRAME (R4, R185). -/
def execReturnFrame (bytes : List Byte) (s : State) : Host.Outcome State Fault Refusal := (s.receive bytes).done

/-- MODULE_LOST (R8). -/
def execModuleLost (p : Fin 10) (s : State) : Host.Outcome State Fault Refusal := (s.sweepWhen (s.lossDue p)).done

/-- LINK_OFFLINE (R12). -/
def execLinkOffline (s : State) : Host.Outcome State Fault Refusal := (s.sweepWhen s.offlineDue).done

/-- DISCOVERY_SHORT (R16). -/
def execDiscoveryShort (s : State) : Host.Outcome State Fault Refusal := (s.sweepWhen s.shortDue).done

/-- DETAIL_RIDE_LIMIT (R19). -/
def execDetailRideLimit (s : State) : Host.Outcome State Fault Refusal := (s.sweepWhen s.rideDue).done

/-- ZONE_STALE (R27). -/
def execZoneStale (z : Fin 40) (s : State) : Host.Outcome State Fault Refusal := (s.sweepWhen (s.staleDue z)).done

/-- SETPOINT_NOT_APPLIED (R39). -/
def execSetpointNotApplied (z : Fin 40) (s : State) : Host.Outcome State Fault Refusal :=
  (s.sweepWhen (s.notAppliedDue z)).done

/-- CURE_GAP (R54). -/
def execCureGap (d : Fin 4) (s : State) : Host.Outcome State Fault Refusal :=
  (s.sweepWhen (s.cureFaultDue d .cureGap)).done

/-- CURE_TIMEOUT (R54). -/
def execCureTimeout (d : Fin 4) (s : State) : Host.Outcome State Fault Refusal :=
  (s.sweepWhen (s.cureFaultDue d .cureTimeout)).done

end Sys2Proof.Machine
end

