-- ==== Sys2Proof/Machine/Dispatch.lean ====
section
/-! DEFINITION. One arm per command: the meaning each row of spec/opcode_table.json has. -/

namespace Sys2Proof.Machine

/-- The effect of a command on everything but the queue of commands. -/
def exec (i : Instr) (s : State) : Host.Outcome State Fault Refusal :=
  match i with
  | .powerOnReset => Sys2Proof.Machine.execPowerOnReset s
  | .cellReset => Sys2Proof.Machine.execCellReset s
  | .sweepEnd => Sys2Proof.Machine.execSweepEnd s
  | .returnFrame bytes => Sys2Proof.Machine.execReturnFrame bytes s
  | .moduleLost p => Sys2Proof.Machine.execModuleLost p s
  | .linkOffline => Sys2Proof.Machine.execLinkOffline s
  | .discoveryShort => Sys2Proof.Machine.execDiscoveryShort s
  | .detailRideLimit => Sys2Proof.Machine.execDetailRideLimit s
  | .restartLink w => Sys2Proof.Machine.execRestartLink w s
  | .zoneStale z => Sys2Proof.Machine.execZoneStale z s
  | .setpointNotApplied z => Sys2Proof.Machine.execSetpointNotApplied z s
  | .setpointWrite addr enables data => Sys2Proof.Machine.execSetpointWrite addr enables data s
  | .platenBroadcastWrite addr enables data => Sys2Proof.Machine.execPlatenBroadcastWrite addr enables data s
  | .cureGap d => Sys2Proof.Machine.execCureGap d s
  | .cureTimeout d => Sys2Proof.Machine.execCureTimeout d s
  | .load w => Sys2Proof.Machine.execLoad w s
  | .demould w => Sys2Proof.Machine.execDemould w s
  | .abort w => Sys2Proof.Machine.execAbort w s
  | .scrap w => Sys2Proof.Machine.execScrap w s
  | .manualRelease w => Sys2Proof.Machine.execManualRelease w s
  | .debouncedChange n pins => Sys2Proof.Machine.execDebouncedChange n pins s
  | .strokeTimeout d => Sys2Proof.Machine.execStrokeTimeout d s
  | .retractTimeout d => Sys2Proof.Machine.execRetractTimeout d s
  | .dwellExpiry d => Sys2Proof.Machine.execDwellExpiry d s
  | .finalRetractTimeout d => Sys2Proof.Machine.execFinalRetractTimeout d s
  | .setLine w => Sys2Proof.Machine.execSetLine w s
  | .poll => Sys2Proof.Machine.execPoll s
  | .answerWaitExpiry => Sys2Proof.Machine.execAnswerWaitExpiry s
  | .headSilent h answer => Sys2Proof.Machine.execHeadSilent h answer s
  | .answerEnd chars => Sys2Proof.Machine.execAnswerEnd chars s
  | .openCharge w => Sys2Proof.Machine.execOpenCharge w s
  | .closeCharge w => Sys2Proof.Machine.execCloseCharge w s
  | .discardCharge w => Sys2Proof.Machine.execDiscardCharge w s
  | .chargeExpired => Sys2Proof.Machine.execChargeExpired s
  | .unknownCode addr enables data => Sys2Proof.Machine.execUnknownCode addr enables data s
  | .stampPlaced c => Sys2Proof.Machine.execStampPlaced c s
  | .completionStampReachesMemory c => Sys2Proof.Machine.execCompletionStampReachesMemory c s
  | .queuePlace => Sys2Proof.Machine.execQueuePlace s
  | .injectedWriteReachesMemory => Sys2Proof.Machine.execInjectedWriteReachesMemory s
  | .appendBegin => Sys2Proof.Machine.execAppendBegin s
  | .appendEnd => Sys2Proof.Machine.execAppendEnd s
  | .readIndexWrite enables data => Sys2Proof.Machine.execReadIndexWrite enables data s
  | .attentionRead => Sys2Proof.Machine.execAttentionRead s
  | .pendingCountRead => Sys2Proof.Machine.execPendingCountRead s
  | .classMaskWrite enables data => Sys2Proof.Machine.execClassMaskWrite enables data s
  | .imageBlockFirstWordRead addr => Sys2Proof.Machine.execImageBlockFirstWordRead addr s
  | .recordRead addr => Sys2Proof.Machine.execRecordRead addr s
  | .writeToOwnedWindow addr enables data => Sys2Proof.Machine.execWriteToOwnedWindow addr enables data s
  | .commit enables data => Sys2Proof.Machine.execCommit enables data s
  | .commitFetchStart => Sys2Proof.Machine.execCommitFetchStart s
  | .fetchRead => Sys2Proof.Machine.execFetchRead s
  | .validationDecision => Sys2Proof.Machine.execValidationDecision s
  | .commitSwitch => Sys2Proof.Machine.execCommitSwitch s
  | .commitStampReachesMemory => Sys2Proof.Machine.execCommitStampReachesMemory s
  | .sample pins => Sys2Proof.Machine.execSample pins s

end Sys2Proof.Machine
end

