-- ==== Sys2Proof/Safety.lean ====
section
/-! DEFINITION. What the part keeps true from step to step, and the condition in which a host access is taken and
ended within its own step. -/

namespace Sys2Proof.Machine

/-- R131: at most 32 entries, never two with the same kind and source, occurrence counts 1 to 7. The set is held in
the order of service, so distinctness is that its keys rise strictly. -/
def Attention.Legal (a : Attention) : Prop :=
  a.set.length ≤ Config.pendingCap ∧ (a.set.map Entry.key).Pairwise (fun x y => x < y)
    ∧ ∀ e ∈ a.set, 1 ≤ e.count ∧ e.count ≤ 7

/-- R154: the injection queue holds up to 64 entries. -/
def Passage.QueueLegal (p : Passage) : Prop := p.queue.length ≤ Config.queueCap

/-- R114, R44, R100, R105: the backlog slots occupied and reserved never exceed 4; one is reserved for each daylight
that is DEMOULDING, and for no other; a sequence runs for exactly those; a record is open exactly outside VACANT. -/
def State.BacklogLegal (s : State) : Prop :=
  s.hist.occupied + s.hist.reserved ≤ Config.backlogCap
    ∧ s.hist.reserved = ((List.finRange 4).filter fun d => s.days[d].reserved).length
    ∧ ∀ d : Fin 4, (s.days[d].reserved = true ↔ s.days[d].state = .demoulding)
        ∧ (s.seqs[d].phase ≠ .idle ↔ s.days[d].state = .demoulding)
        ∧ (s.days[d].record.isSome = true ↔ s.days[d].state ≠ .vacant)

/-- R115, R119, R120: the backlog positions stand as far apart as records are held; an append in progress has a
record to append, goes to the write index in effect, and its slot is not the one before the read index. -/
def History.AppendLegal (h : History) : Prop :=
  (h.oldest.val + h.occupied) % 4 = h.fill.val
    ∧ ∀ w, h.append = some w → 1 ≤ h.occupied
        ∧ ∃ r, h.ring = some r ∧ w = h.write ∧ (w + 1) % r.cap ≠ r.read

/-- R77, R80, R83, R84, R86: the total of every charge is the sum of its ply list; a head holds the slot of its
OPEN charge, and no other. -/
def Weigh.ChargesLegal (w : Weigh) : Prop :=
  (∀ i : Fin 6, w.charges[i].total = ((w.charges[i].plies.sum : Nat) : Int))
    ∧ (∀ (h : Fin 4) (i : Fin 6), w.heads[h].held = some i → w.charges[i].state = .opened ∧ w.charges[i].head = h)
    ∧ (∀ i : Fin 6, w.charges[i].state = .opened → w.heads[w.charges[i].head].held = some i)

/-- R99: while a sequence can be stopped, CELL STOP and its daylight's CLOSED are deasserted. -/
def State.EjectLaw (s : State) : Prop :=
  ∀ d : Fin 4, s.seqs[d].phase.stoppable = true → s.level (.closed d) = false ∧ s.level .cellStop = false

/-- R178: an IDLE channel has an empty record, and a completion is known exactly in STAMPING. -/
def Channel.Legal (c : Channel) : Prop :=
  (c.phase = .idle → c = Channel.powerOn) ∧ (c.phase = .stamping ↔ c.completion.isSome = true)

/-- The host port is free with no access behind it, and no report is left over: the next access is taken at once. -/
def State.portFree (s : State) : Bool := s.portIdle && s.pass.upcoming.isEmpty && s.offers.isEmpty

/-- A full-word write of a command word falls on the word of channel `c` (R152). -/
def State.commandArrives (s : State) (w : CommandWrite) (c : Fin 10) : Bool :=
  s.portFree && w.enables == 0xF#4 && match s.region w.addr with
    | .command o => channelAt? o == some c
    | .mapPage _ => false
    | .setpoint _ => false
    | .image _ => false
    | .record _ => false
    | .plain => false

/-- A write of a word between `s` and `t`: its memory cycle has ended, or it claims the port, which is possible only
while the queue holds 48 entries or more (R143, R155). -/
def State.cycleEnded (t s : State) (addr : Addr) (enables : Enables) (data : Word) : Prop :=
  (t.pass.port = .idle ∧ t.pass.reply = .wrote ∧ t.mem = writeWord s.mem (wordBase addr) enables data)
    ∨ (Config.starvation ≤ t.pass.queue.length ∧ t.mem = s.mem
        ∧ ∃ c, t.pass.port = .claiming ⟨⟨addr, enables, some data⟩, c⟩)

/-- A passed write between `s` and `t`: its cycle, and what of the passage stays (R143, R155). -/
def State.wordPassed (t s : State) (addr : Addr) (enables : Enables) (data : Word) : Prop :=
  t.cycleEnded s addr enables data
    ∧ t.pass = { s.pass with
        queue := t.pass.queue, waiting := t.pass.waiting, port := t.pass.port, reply := t.pass.reply }

/-- Nothing was placed in the injection queue and nothing left it. -/
def State.queueKept (t s : State) : Prop := t.pass.queue = s.pass.queue ∧ t.pass.waiting = s.pass.waiting

/-- A cause offered in the step that led to `t` stands in the pending set with its detail, or a full set dropped it
(R132, R133). -/
def State.shows (t : State) (k : CauseKind) (source detail : Byte) : Prop :=
  (∃ e ∈ t.att.set, e.kind = k ∧ e.source = source ∧ e.detail = detail)
    ∨ (t.att.overflow = true ∧ Config.pendingCap ≤ t.att.set.length)

/-- Between `s` and `t` the demould sequence of daylight `d` ended with failure: the daylight is FAULTED with the reason
and the attempt count, and the completion is handed over (R61, R105). -/
def State.demouldFailedAt (t s : State) (d : Fin 4) (reason : FaultReason) : Prop :=
  t.seqs[d].phase = .idle ∧ t.seqs[d].expiry = none
    ∧ t.days[d] = { s.days[d] with
        state := .faulted, fault := reason, attempts := s.seqs[d].attempts, reserved := false }
    ∧ (s.chans[dayChannel d].phase = .running →
        t.chans[dayChannel d].phase = .stamping ∧ t.chans[dayChannel d].completion = some reason.code)

end Sys2Proof.Machine
end

