-- ==== Sys2Proof/Certificates/Slice0/Obligations.lean ====
section
/-! DEFINITION. The statements for the provers. `portFree`, `commandArrives` and `wordPassed` are those of
Sys2Proof/Safety.lean. A frame is written as `t = { s with f := t.f, … }`: every field not named is unchanged. -/

open Sys2Proof Sys2Proof.Machine

/-! ## The machine -/

/-- A step with command `c` at the front of the queue is `exec c` on the queue's rest. With no command the block
idles (the model's choice, log 2). -/
def Obligations.StepRunsTheFrontCommand : Prop :=
  (∀ (c : Instr) (s : State) (rest : List Instr), step (s.setPending (c :: rest)) = exec c (s.setPending rest))
    ∧ ∀ s : State, s.pending = [] → step s = .next s

/-- Every command answers a next state, leaves the queue of commands alone, and leaves no report undelivered. -/
def Obligations.EveryCommandAnswersNext : Prop :=
  ∀ (c : Instr) (s : State), ∃ t, exec c s = .next t ∧ t.pending = s.pending ∧ t.offers = []

/-- The values the rules give for power-on reset (R23, R43, R44, R90, R109, R128, R142, R158, R160, R175). -/
def Obligations.ResetValues : Prop :=
  let r := State.reset
  (r.link.state = .down ∧ r.link.health = 0 ∧ r.link.sweepCount = 0 ∧ r.link.found = 0 ∧ r.link.queue = []
      ∧ r.link.restart = false ∧ r.link.state.heatEnable = false
      ∧ ∀ p : Fin 10, r.link.modules[p] = ⟨.unknown, 0, false, false⟩)
    ∧ (∀ z : Fin 40, r.zones[z] = ⟨none, .absent, 0, .disabled, false, false, none, none, .none, 0, false⟩)
    ∧ (∀ d : Fin 4, r.days[d].state = .vacant ∧ r.days[d].record = none ∧ r.days[d].dose = 0 ∧ r.days[d].sweeps = 0
        ∧ r.days[d].minTemp = none ∧ r.days[d].maxTemp = none ∧ r.days[d].reserved = false)
    ∧ (∀ d : Fin 4, r.seqs[d].phase = .idle ∧ r.seqs[d].attempts = 0 ∧ r.seqs[d].last = .none
        ∧ r.seqs[d].stop = .none ∧ r.seqs[d].expiry = none ∧ r.seqs[d].ejectDrive = false)
    ∧ (∀ h : Fin 4, r.weigh.heads[h] = ⟨.disabled, 0, 0, none, [], none⟩)
    ∧ (∀ i : Fin 6, r.weigh.charges[i].state = .free ∧ r.weigh.charges[i].completed = 0xFFFFFFFF#32)
    ∧ r.weigh.nextId = 1 ∧ r.weigh.slot = none
    ∧ (∀ n : Fin 32, r.lines[n] = ⟨false, 0, false⟩ ∧ r.pinDrive n = none)
    ∧ (r.hist.occupied = 0 ∧ r.hist.reserved = 0 ∧ r.hist.append = none ∧ r.hist.ring = none
        ∧ r.hist.ringFull = false ∧ r.hist.counter = 0)
    ∧ (r.att.set = [] ∧ r.att.overflow = false ∧ r.att.mask = 0x3F#6 ∧ r.attentionOutput = false)
    ∧ (r.pass.mapped = false ∧ r.pass.queue = [] ∧ r.pass.waiting = [] ∧ r.pass.boundary = none
        ∧ r.pass.port = .idle ∧ ∀ b : Fin 11, r.pass.latches[b] = none)
    ∧ (r.maps.map = none ∧ r.maps.generation = 0 ∧ r.maps.first = true ∧ r.maps.stage = .idle)
    ∧ ∀ c : Fin 10, r.chans[c].phase = .idle ∧ r.chans[c].stamp = none ∧ r.chans[c].abort = false
        ∧ r.chans[c].completion = none

/-- The state after reset has every property that the statements on invariants say each step keeps. -/
def Obligations.ResetIsLegal : Prop :=
  Memory.wf State.reset.mem = true ∧ State.reset.pass.QueueLegal ∧ State.reset.att.Legal ∧ State.reset.BacklogLegal
    ∧ State.reset.weigh.ChargesLegal ∧ State.reset.hist.AppendLegal ∧ (∀ c : Fin 10, State.reset.chans[c].Legal)
    ∧ State.reset.EjectLaw

/-! ## Invariants of every step -/

/-- Every step keeps the canonical form of memory. -/
def Obligations.MemoryKeepsItsForm : Prop :=
  ∀ s t : State, Memory.wf s.mem = true → step s = .next t → Memory.wf t.mem = true

/-- Every step keeps the injection queue at 64 entries or fewer (R154). -/
def Obligations.InjectionQueueStaysBounded : Prop :=
  ∀ s t : State, s.pass.QueueLegal → step s = .next t → t.pass.QueueLegal

/-- Every step keeps the pending set at 32 entries or fewer, no two of one kind and source, each with an occurrence
count of 1 to 7 (R131, R132). -/
def Obligations.PendingSetStaysLegal : Prop :=
  ∀ s t : State, s.att.Legal → step s = .next t → t.att.Legal

/-- Every step keeps the occupied and reserved backlog slots together at 4 or fewer, one reserved for each DEMOULDING
daylight and no other, and one open record for each daylight that is not VACANT (R114, R44). -/
def Obligations.BacklogStaysWithinFour : Prop :=
  ∀ s t : State, s.BacklogLegal → step s = .next t → t.BacklogLegal

/-- Every step keeps each charge's total equal to the sum of its ply list, and each head holding its one OPEN charge
(R77). -/
def Obligations.ChargeTotalsStaySums : Prop :=
  ∀ s t : State, s.weigh.ChargesLegal → step s = .next t → t.weigh.ChargesLegal

/-- At every step an append in progress has a record to append, and its slot stays clear of the read index (R120). -/
def Obligations.AppendStaysClearOfReadIndex : Prop :=
  ∀ s t : State, s.hist.AppendLegal → step s = .next t → t.hist.AppendLegal

/-- Every step keeps an IDLE channel's record empty and a completion known exactly in STAMPING (R175, R178). That the
abort flag is cleared with the rest is the model's choice, log 36. -/
def Obligations.ChannelRecordsStayLegal : Prop :=
  ∀ s t : State, (∀ c : Fin 10, s.chans[c].Legal) → step s = .next t → ∀ c : Fin 10, t.chans[c].Legal

/-- While the map in effect stays, every step keeps the ejector law: no sequence that can be stopped runs, so no EJECT
drive is active, while CELL STOP or its daylight's CLOSED is asserted (R99). -/
def Obligations.EjectLawHoldsUnderOneMap : Prop :=
  ∀ s t : State, s.EjectLaw → step s = .next t → t.maps.map = s.maps.map →
    t.EjectLaw ∧ ∀ d : Fin 4, t.seqs[d].ejectDrive = true → t.level (.closed d) = false ∧ t.level .cellStop = false

/-! ## Resets -/

/-- Power-on reset puts every block in its power-on state. What is outside the part, memory and the commands still
to come, is kept, and so is the model's own choice counter (log 23). -/
def Obligations.PowerOnResetClearsThePart : Prop :=
  ∀ s : State, exec .powerOnReset s
    = .next { State.reset with mem := s.mem, pending := s.pending, choice := s.choice }

/-- Cell reset: the passage becomes UNMAPPED, every latch is emptied and a commit not yet in STAMPING is abandoned;
every field block, the injection queue, the map in effect and memory are kept (R157, R173). -/
def Obligations.CellResetUnmapsThePassage : Prop :=
  ∀ s : State, s.portFree = true →
    ∃ t, exec .cellReset s = .next t
      ∧ t = { s with pass := t.pass, maps := t.maps }
      ∧ t.pass = { s.pass with mapped := false, latches := t.pass.latches, boundary := t.pass.boundary }
      ∧ (∀ b : Fin 11, t.pass.latches[b] = none)
      ∧ t.maps = { s.maps with stage := t.maps.stage, copy := t.maps.copy }
      ∧ (s.maps.stage ≠ .stamping → t.maps.stage = .idle ∧ t.maps.copy = [] ∧ t.pass.boundary = none)
      ∧ (s.maps.stage = .stamping → t.maps = s.maps ∧ t.pass.boundary = s.pass.boundary)

/-! ## The sweep -/

/-- Bytes received in a period with a sweep in flight join those received before; nothing else changes. Bytes of a
period without a sweep are not taken (the model's choice, log 16). -/
def Obligations.ReturnFrameIsReceived : Prop :=
  ∀ (s : State) (bytes : List Byte), s.offers = [] →
    (∀ w, s.link.inFlight = some w →
      exec (.returnFrame bytes) s = .next { s with link := { s.link with received := s.link.received ++ bytes } })
    ∧ (s.link.inFlight = none → exec (.returnFrame bytes) s = .next s)

/-- A sweep end with no sweep in flight keeps the health counter, the modules, the queue and the link state; the next
period begins, with a sweep when the link exchanges frames and a module is expected (R2, R9, R10). -/
def Obligations.SweepEndWithoutSweepKeepsTheLink : Prop :=
  ∀ s : State, s.link.inFlight = none →
    ∃ t, exec .sweepEnd s = .next t
      ∧ t.link = { s.link with
          restarted := false, received := [], sweepCount := t.link.sweepCount, inFlight := t.link.inFlight }
      ∧ (s.link.state.frames = true → 1 ≤ s.cell.modules →
          t.link.sweepCount = (s.link.sweepCount + 1) % 4
            ∧ ∃ w, t.link.inFlight = some w ∧ w.count = s.link.sweepCount ∧ w.found = s.link.found
              ∧ w.slot = s.link.nextSlot)
      ∧ (¬ (s.link.state.frames = true ∧ 1 ≤ s.cell.modules) →
          t.link.sweepCount = s.link.sweepCount ∧ t.link.inFlight = none)

/-- The health counter of a RUNNING link that stays below the thresholds: up by 8 when no frame came, by 1 for each
check error of a good frame, down by 1 after a clean sweep; without a frame every PRESENT or MISMATCH module counts a
miss. In a good frame a good place clears the miss count and gives a PRESENT module its flags, a missing place counts a
miss, a check error leaves the module as it was. The counter then moves a RUNNING link to DEGRADED at 128 with LINK
DEGRADED, raises LINK WARNED when it crosses 96, and brings a DEGRADED link back below 96 (R5 to R7, R9, R11). -/
def Obligations.SweepEndCountsErrors : Prop :=
  (∀ (s : State) (w : Sweep), s.link.inFlight = some w → s.link.restarted = false → s.link.state = .running →
    s.link.health < 80 → (∀ p : Fin 10, s.link.modules[p].miss < 31) →
    ∃ t, exec .sweepEnd s = .next t ∧ t.link.state = .running
      ∧ (findFrame s.link.received = none →
          t.link.health = s.link.health + 8
            ∧ ∀ p : Fin 10, t.link.modules[p].miss
                = if s.link.modules[p].counted then s.link.modules[p].miss + 1 else s.link.modules[p].miss)
      ∧ (∀ frame, findFrame s.link.received = some frame → headerGood frame w.count = false →
          t.link.health = s.link.health + 8 ∧ t.link.modules = s.link.modules)
      ∧ (∀ frame, findFrame s.link.received = some frame → headerGood frame w.count = true →
          t.link.health = if checkErrors w frame = 0 then s.link.health - 1 else s.link.health + checkErrors w frame)
      ∧ ∀ frame, findFrame s.link.received = some frame → headerGood frame w.count = true → ∀ p : Fin 10,
          let m := s.link.modules[p]
          (placeClass w frame p = .good → m.state = .present → t.link.modules[p] = { m with
              miss := 0
              attention := sectionAttention (sectionOf frame p), tripped := sectionTripped (sectionOf frame p) })
          ∧ (placeClass w frame p = .good → m.state = .mismatch → t.link.modules[p] = { m with miss := 0 })
          ∧ (placeClass w frame p = .missing → m.counted = true → t.link.modules[p] = { m with miss := m.miss + 1 })
          ∧ (placeClass w frame p = .checkError ∨ m.counted = false → t.link.modules[p] = m))
    ∧ ∀ (s : State) (w : Sweep), s.offers = [] → s.link.inFlight = some w → s.link.restarted = false →
      let health := (s.link.countSweep w).link.health
      health < 256 →
      ∃ t, exec .sweepEnd s = .next t
        ∧ (s.link.state = .running → health < 128 → t.link.state = .running ∧ t.link.health = health)
        ∧ (s.link.state = .running → 128 ≤ health →
            t.link.state = .degraded ∧ t.link.health = health ∧ t.shows .linkDegraded 0 (byteOf health))
        ∧ (s.link.state = .running → s.link.health < 96 → 96 ≤ health → health < 128 →
            t.shows .linkWarned 0 (byteOf health))
        ∧ (s.link.state = .degraded → t.link.health = health
            ∧ t.link.state = if health ≤ 95 then .running else .degraded)

/-- A sweep end derives every zone from its module's report, then runs each daylight's dose step on the zones so
derived; a link left DEGRADED or OFFLINE marks every open record; nothing else of the part changes but what a link
completion stamps (R10, R25, R31, R51, R113). -/
def Obligations.SweepEndDerivesZonesThenDose : Prop :=
  ∀ s : State, ∃ t, exec .sweepEnd s = .next t
    ∧ t = { s with
        link := t.link, zones := t.zones, days := t.days, att := t.att, pass := t.pass, chans := t.chans
        offers := t.offers, choice := t.choice }
    ∧ (∀ z : Fin 40, t.zones[z]
        = (s.zones[z].derive s.cell.zones[z] (zoneReport s.cell.zones[z] s.sweepReports)).zone)
    ∧ (∀ d : Fin 4, { t.days[d] with record := none }
        = { s.days[d].doseStep (s.level (.closed d)) (trustedReadings ((s.cell.doseZones d).map fun z => t.zones[z]))
              s.time with record := none })
    ∧ (∀ d : Fin 4, t.days[d].record.isSome = s.days[d].record.isSome)
    ∧ ∀ (d : Fin 4) (r : OpenRecord), t.days[d].record = some r →
        t.link.state = .degraded ∨ t.link.state = .offline → r.degraded = true

/-- The reading state of a zone after a sweep end, by what its module reported (R25, R26, R27). -/
def Obligations.ZoneReadingStates : Prop :=
  ∀ (z : Zone) (e : ZoneEntry),
    ((z.derive e .notPresent).zone.rstate = .absent ∧ (z.derive e .notPresent).zone.reading = none
      ∧ (z.derive e .notPresent).zone.applied = none ∧ (z.derive e .notPresent).zone.request = z.request
      ∧ (z.derive e .notPresent).zone.heldCount = 0)
    ∧ (z.rstate = .fresh ∨ z.rstate = .held → z.heldCount < 8 →
        (z.derive e .held).zone.rstate = .held ∧ (z.derive e .held).zone.reading = z.reading
          ∧ (z.derive e .held).zone.heldCount = z.heldCount + 1)
    ∧ (z.rstate = .fresh ∨ z.rstate = .held → 8 ≤ z.heldCount → (z.derive e .held).zone.rstate = .stale)
    ∧ (z.rstate = .stale → (z.derive e .held).zone.rstate = .stale ∧ (z.derive e .held).zone.reading = z.reading)
    ∧ (z.rstate = .absent → (z.derive e .held).zone.rstate = .stale ∧ (z.derive e .held).zone.reading = none)
    ∧ (z.rstate = .failed → (z.derive e .held).zone.rstate = .failed ∧ (z.derive e .held).zone.reading = none)
    ∧ ∀ (rd : Reading) (h : e.channel < 4),
        let t := (z.derive e (.fresh rd)).zone
        t.status = rd.status[e.channel]
          ∧ (rd.status[e.channel] = .ok ∨ rd.status[e.channel] = .tripped →
              t.rstate = .fresh ∧ t.reading = some (min 4000 rd.temps[e.channel]) ∧ t.heldCount = 0)
          ∧ (rd.status[e.channel] = .sensorBreak → t.rstate = .failed ∧ t.reading = none)
          ∧ (rd.status[e.channel] = .disabled → t.rstate = .absent ∧ t.reading = none)

/-- A sweep end whose evaluation finds the lowest miss count at 32 at position `p`: the module at `p` and every later
counted module found are LOST and leave the detail-fetch queue (R8, R20). -/
def Obligations.ModuleLossBreaksTheChain : Prop :=
  ∀ (s : State) (w : Sweep) (p : Fin 10), s.link.inFlight = some w → s.link.restarted = false →
    (s.link.countSweep w).link.breakPoint = some p → p.val < s.link.found →
    ∃ t, exec (.moduleLost p) s = .next t ∧ exec .sweepEnd s = .next t
      ∧ ∀ q : Fin 10, p ≤ q → q.val < s.link.found → s.link.modules[q].counted = true →
          t.link.modules[q].state = .lost ∧ q ∉ t.link.queue

/-- A health counter that reaches 256 takes the link OFFLINE: no counted module, an empty detail-fetch queue, no
RESTART LINK pending, HEAT ENABLE inactive, no frame sent (R12, R13). -/
def Obligations.FullHealthCounterTakesTheLinkOffline : Prop :=
  ∀ (s : State) (w : Sweep), s.link.inFlight = some w → s.link.restarted = false → s.link.state.frames = true →
    256 ≤ (s.link.countSweep w).link.health →
    ∃ t, exec .linkOffline s = .next t ∧ exec .sweepEnd s = .next t
      ∧ t.link.state = .offline ∧ t.link.queue = [] ∧ t.link.restart = false ∧ t.link.state.heatEnable = false
      ∧ t.link.inFlight = none ∧ ∀ p : Fin 10, t.link.modules[p].counted = false

/-- A fourth unanswered probe sweep ends discovery short: the remaining expected positions are MISSING and the link
is RUNNING. An identity answer makes the probed module PRESENT when its channel count is the expected one and otherwise
MISMATCH with its cause; probing goes on to the next position, or discovery ends RUNNING and completes a RESTART LINK
with DONE (R15, R16, R17). -/
def Obligations.FourthUnansweredProbeEndsDiscovery : Prop :=
  (∀ (s : State) (w : Sweep) (n : Nat) (h : s.link.found < 10), s.link.inFlight = some w → s.link.restarted = false →
    s.link.state = .discovering → w.slot = .discover n → s.link.probes = 3 →
    identityAnswer w (goodFrame s.link w) ⟨s.link.found, h⟩ = none → (s.link.countSweep w).link.health < 96 →
    ∃ t, exec .discoveryShort s = .next t ∧ exec .sweepEnd s = .next t
      ∧ t.link.state = .running ∧ t.link.probes = 0 ∧ t.link.found = s.link.found ∧ t.link.restart = false
      ∧ ∀ p : Fin 10, s.link.found ≤ p.val → p.val < s.cell.modules → t.link.modules[p].state = .missing)
    ∧ ∀ (s : State) (w : Sweep) (n : Nat) (h : s.link.found < 10) (channels : Byte), s.link.inFlight = some w →
      s.link.restarted = false → s.link.state = .discovering → w.slot = .discover n →
      identityAnswer w (goodFrame s.link w) ⟨s.link.found, h⟩ = some channels →
      (s.link.countSweep w).link.health < 96 →
      ∃ t, exec .sweepEnd s = .next t ∧ t.link.found = s.link.found + 1 ∧ t.link.probes = 0
        ∧ t.link.modules[s.link.found].miss = 0
        ∧ t.link.modules[s.link.found].state
            = (if channels.toNat = s.cell.channels[s.link.found] then .present else .mismatch)
        ∧ (channels.toNat ≠ s.cell.channels[s.link.found] → s.offers = [] →
            t.shows .moduleMismatch (byteOf s.link.found) channels)
        ∧ (s.link.found + 1 < s.cell.modules → t.link.state = .discovering ∧ t.link.restart = s.link.restart)
        ∧ (¬ s.link.found + 1 < s.cell.modules → t.link.state = .running ∧ t.link.restart = false
            ∧ (s.link.restart = true → s.chans[linkChannel].phase = .running →
                t.chans[linkChannel].phase = .stamping ∧ t.chans[linkChannel].completion = some 0x02))

/-- The thirtieth sweep of the head of the detail-fetch queue without an answer takes it out of the queue. A detail
code in its good place takes it out at once and becomes the detail of its MODULE ATTENTION. A PRESENT module whose good
section sets the attention flag joins the tail, if it is not queued, with MODULE ATTENTION PENDING (R18, R19, R134). -/
def Obligations.RideLimitDropsTheHead : Prop :=
  (∀ (s : State) (w : Sweep) (p : Fin 10) (rest : List (Fin 10)), s.link.inFlight = some w →
    s.link.restarted = false → w.slot = .detail p → (s.link.beforeDetail s.cell w).link.queue = p :: rest →
    detailAnswer w (goodFrame s.link w) p = none → 29 ≤ (s.link.beforeDetail s.cell w).link.ride →
    ∃ t, exec .detailRideLimit s = .next t ∧ exec .sweepEnd s = .next t ∧ t.link.queue = rest ∧ t.link.ride = 0)
    ∧ (∀ (s : State) (w : Sweep) (p : Fin 10) (rest : List (Fin 10)) (code : Byte), s.offers = [] →
      s.link.inFlight = some w → s.link.restarted = false → w.slot = .detail p →
      (s.link.beforeDetail s.cell w).link.queue = p :: rest → detailAnswer w (goodFrame s.link w) p = some code →
      ∃ t, exec .sweepEnd s = .next t ∧ t.link.queue = rest ∧ t.link.ride = 0
        ∧ t.shows .moduleAttention (byteOf p.val) code)
    ∧ ∀ (s : State) (w : Sweep) (frame : List Byte), s.offers = [] → s.link.inFlight = some w →
      s.link.restarted = false → s.link.state = .running → w.slot = .none → goodFrame s.link w = some frame →
      s.link.health < 80 → (∀ p : Fin 10, s.link.modules[p].miss < 31) →
      let joining := (List.finRange 10).filter fun p => decide (s.link.modules[p].state = .present
        ∧ placeClass w frame p = .good ∧ sectionAttention (sectionOf frame p) = true ∧ p ∉ s.link.queue)
      ∃ t, exec .sweepEnd s = .next t ∧ t.link.queue = s.link.queue ++ joining
        ∧ ∀ p ∈ joining, t.shows .moduleAttention (byteOf p.val) 0

/-- The ninth held sweep of a FRESH or HELD zone makes it STALE, its reading kept (R27). A PENDING request whose
delivery counter reaches 30 without an equal echo is marked not applied (R38, R39). -/
def Obligations.ZoneSweepLimits : Prop :=
  (∀ (s : State) (z : Fin 40), zoneReport s.cell.zones[z] s.sweepReports = .held →
      s.zones[z].rstate = .fresh ∨ s.zones[z].rstate = .held → s.zones[z].heldCount = 8 →
      ∃ t, exec (.zoneStale z) s = .next t ∧ exec .sweepEnd s = .next t
        ∧ t.zones[z].rstate = .stale ∧ t.zones[z].heldCount = 9 ∧ t.zones[z].reading = s.zones[z].reading)
    ∧ ∀ (s : State) (z : Fin 40), s.zones[z].delivery = .pending → s.zones[z].counter = 29 →
      s.zones[z].notApplied = false →
      (zoneReport s.cell.zones[z] s.sweepReports = .held
        ∨ ∃ (rd : Reading) (h : s.cell.zones[z].channel < 4), zoneReport s.cell.zones[z] s.sweepReports = .fresh rd
            ∧ rd.status[s.cell.zones[z].channel] ≠ .disabled
            ∧ s.zones[z].request ≠ some rd.held[s.cell.zones[z].channel]) →
      ∃ t, exec (.setpointNotApplied z) s = .next t ∧ exec .sweepEnd s = .next t
        ∧ t.zones[z].notApplied = true ∧ t.zones[z].counter = 30 ∧ t.zones[z].delivery = .pending

/-- A CURING daylight below its dose target faults with CURE GAP when its consecutive gap passes the maximum, and
otherwise with CURE TIMEOUT when its cure sweeps reach the maximum cure time (R54, R56). -/
def Obligations.CureFaults : Prop :=
  ∀ (s : State) (d : Fin 4) (readings : Option (List Nat)),
    readings = trustedReadings
      ((s.cell.doseZones d).map fun z => ((deriveZones s.cell s.zones s.sweepReports)[z]).zone) →
    s.days[d].state = .curing → (s.days[d].sweep readings).dose < s.days[d].recipe.doseTarget →
    (readings = none → s.days[d].recipe.maxGap < (s.days[d].sweep readings).gap →
      ∃ t, exec (.cureGap d) s = .next t ∧ exec .sweepEnd s = .next t
        ∧ t.days[d].state = .faulted ∧ t.days[d].fault = .cureGap)
    ∧ (¬ (readings = none ∧ s.days[d].recipe.maxGap < (s.days[d].sweep readings).gap) →
      s.days[d].recipe.maxCure * 100 ≤ min 0xFFFFFFFF (s.days[d].sweeps + 1) →
      ∃ t, exec (.cureTimeout d) s = .next t ∧ exec .sweepEnd s = .next t
        ∧ t.days[d].state = .faulted ∧ t.days[d].fault = .cureTimeout)

/-- The dose step of a CURING or closed CURED daylight: a temperature sweep adds what its lowest reading exceeds the
activation temperature by and clears the consecutive gap; a gap sweep leaves dose and temperatures and raises both gap
counts; in every other state nothing changes (R51, R52, R53). -/
def Obligations.DoseStepBySweepKind : Prop :=
  ∀ (c : Daylight) (closed : Bool) (now : Time),
    (∀ readings, c.state = .curing ∨ (c.state = .cured ∧ closed = true) →
      (∀ l : List Nat, readings = some l →
        let t := c.doseStep closed readings now
        t.dose = min 0xFFFFFFFF (c.dose + (lowest l - c.recipe.activation)) ∧ t.gap = 0 ∧ t.totalGap = c.totalGap
          ∧ t.minTemp = some (match c.minTemp with | some m => min m (lowest l) | none => lowest l)
          ∧ t.maxTemp = some (match c.maxTemp with | some m => max m (highest l) | none => highest l))
      ∧ (readings = none →
        let t := c.doseStep closed readings now
        t.dose = c.dose ∧ t.minTemp = c.minTemp ∧ t.maxTemp = c.maxTemp
          ∧ t.gap = min 65535 (c.gap + 1) ∧ t.totalGap = min 65535 (c.totalGap + 1)))
    ∧ ∀ readings, ¬ (c.state = .curing ∨ (c.state = .cured ∧ closed = true)) → c.doseStep closed readings now = c

/-! ## Setpoints -/

/-- A zone's setpoint write that finds the zone mapped, the link RUNNING, the value within the limits in force and
within the ramp step: a value other than the request begins a PENDING episode and hands a change entry to the open
record of each adjacent daylight; an equal one changes nothing (R33, R34, R37). -/
def Obligations.SetpointWriteAccepted : Prop :=
  ∀ (s : State) (addr : Addr) (enables : Enables) (data : Word) (z : Fin 40), s.portFree = true →
    s.region addr = .setpoint (4 * z.val) → enables.getLsbD 0 = true → enables.getLsbD 1 = true →
    s.cell.zones[z].mapped = true → s.link.state = .running →
    s.lowLimit z ≤ setpointValue data → setpointValue data ≤ s.highLimit z →
    rampOk s.cell.zones[z].ramp s.zones[z].request (setpointValue data) = true →
    ∃ t, exec (.setpointWrite addr enables data) s = .next t
      ∧ t = { s with zones := t.zones, days := t.days, pass := { s.pass with reply := .wrote } }
      ∧ (s.zones[z].request = some (setpointValue data) → t.zones = s.zones ∧ t.days = s.days)
      ∧ (s.zones[z].request ≠ some (setpointValue data) →
          t.zones = s.zones.set z { s.zones[z] with
            request := some (setpointValue data), delivery := .pending, counter := 0, notApplied := false }
          ∧ ∀ d : Fin 4, t.days[d] = if adjacent z d then
              { s.days[d] with
                record := s.days[d].record.map fun r =>
                  r.change s.time z.val s.zones[z].request (setpointValue data) }
            else s.days[d])

/-- A zone's setpoint write that fails a check is refused with the reason of the first that fails, and changes
nothing else. So is a broadcast, its reason raised by 0x80, with the platen as source, or the first zone that fails its
limits or its ramp. A zone's write without byte enables 0 and 1 is held back with PARTIAL WRITE (R32, R33, R35, R149). -/
def Obligations.SetpointWriteRefused : Prop :=
  (∀ (s : State) (addr : Addr) (enables : Enables) (data : Word) (z : Fin 40) (reason : Byte), s.portFree = true →
    s.region addr = .setpoint (4 * z.val) → enables.getLsbD 0 = true → enables.getLsbD 1 = true →
    ((s.cell.zones[z].mapped = false ∧ reason = 0x01)
      ∨ (s.cell.zones[z].mapped = true ∧ s.link.state ≠ .running ∧ reason = 0x02)
      ∨ (s.cell.zones[z].mapped = true ∧ s.link.state = .running
          ∧ (setpointValue data < s.lowLimit z ∨ s.highLimit z < setpointValue data) ∧ reason = 0x03)
      ∨ (s.cell.zones[z].mapped = true ∧ s.link.state = .running ∧ s.lowLimit z ≤ setpointValue data
          ∧ setpointValue data ≤ s.highLimit z
          ∧ rampOk s.cell.zones[z].ramp s.zones[z].request (setpointValue data) = false ∧ reason = 0x04)) →
    exec (.setpointWrite addr enables data) s = .next { s with
      pass := { s.pass with reply := .wrote }
      att := s.att.offer .setpointRefused (byteOf z.val) reason })
    ∧ (∀ (s : State) (addr : Addr) (enables : Enables) (data : Word) (p : Fin 5) (source reason : Byte),
      s.portFree = true → s.region addr = .setpoint (0x100 + 4 * p.val) → enables.getLsbD 0 = true →
      enables.getLsbD 1 = true →
      let zones := s.cell.platenZones p
      let inRange := fun z : Fin 40 => s.lowLimit z ≤ setpointValue data ∧ setpointValue data ≤ s.highLimit z
      let inStep := fun z : Fin 40 =>
        rampOk s.cell.zones[z].ramp s.zones[z].request (setpointValue data) = true
      ((zones = [] ∧ source = byteOf (0x40 + p.val) ∧ reason = 0x81)
        ∨ (zones ≠ [] ∧ s.link.state ≠ .running ∧ source = byteOf (0x40 + p.val) ∧ reason = 0x82)
        ∨ (s.link.state = .running ∧ ∃ (before after : List (Fin 40)) (z : Fin 40), zones = before ++ z :: after
            ∧ (∀ y ∈ before, inRange y ∧ inStep y) ∧ source = byteOf z.val
            ∧ ((¬ inRange z ∧ reason = 0x83) ∨ (inRange z ∧ ¬ inStep z ∧ reason = 0x84)))) →
      exec (.platenBroadcastWrite addr enables data) s = .next { s with
        pass := { s.pass with reply := .wrote }
        att := s.att.offer .setpointRefused source reason })
    ∧ ∀ (s : State) (addr : Addr) (enables : Enables) (data : Word) (z : Fin 40), s.portFree = true →
      s.region addr = .setpoint (4 * z.val) → ¬ (enables.getLsbD 0 = true ∧ enables.getLsbD 1 = true) →
      exec (.setpointWrite addr enables data) s = .next { s with
        pass := { s.pass with reply := .wrote }
        att := s.att.offer .partialWrite 1 (BitVec.setWidth 8 enables) }

/-- A broadcast to a platen with mapped zones that passes the checks of every one of them sets the request of each
whose request differs, and hands one change entry to each adjacent daylight when any did. One without byte enables 0
and 1 is held back with PARTIAL WRITE (R35, R36, R149). -/
def Obligations.PlatenBroadcastAccepted : Prop :=
  (∀ (s : State) (addr : Addr) (enables : Enables) (data : Word) (p : Fin 5), s.portFree = true →
    s.region addr = .setpoint (0x100 + 4 * p.val) → enables.getLsbD 0 = true → enables.getLsbD 1 = true →
    s.cell.platenZones p ≠ [] → s.link.state = .running →
    (∀ z ∈ s.cell.platenZones p, s.lowLimit z ≤ setpointValue data ∧ setpointValue data ≤ s.highLimit z
      ∧ rampOk s.cell.zones[z].ramp s.zones[z].request (setpointValue data) = true) →
    ∃ t, exec (.platenBroadcastWrite addr enables data) s = .next t
      ∧ t = { s with zones := t.zones, days := t.days, pass := { s.pass with reply := .wrote } }
      ∧ (∀ z : Fin 40, t.zones[z] =
          if z ∈ s.cell.platenZones p ∧ s.zones[z].request ≠ some (setpointValue data) then
            { s.zones[z] with
              request := some (setpointValue data), delivery := .pending, counter := 0, notApplied := false }
          else s.zones[z])
      ∧ ((∃ z ∈ s.cell.platenZones p, s.zones[z].request ≠ some (setpointValue data)) →
          ∀ d : Fin 4, t.days[d] = if p.val = d.val ∨ p.val = d.val + 1 then
              { s.days[d] with
                record := s.days[d].record.map fun r =>
                  r.change s.time (0x80 + p.val) none (setpointValue data) }
            else s.days[d])
      ∧ ((∀ z ∈ s.cell.platenZones p, s.zones[z].request = some (setpointValue data)) → t.days = s.days))
    ∧ ∀ (s : State) (addr : Addr) (enables : Enables) (data : Word) (p : Fin 5), s.portFree = true →
      s.region addr = .setpoint (0x100 + 4 * p.val) → ¬ (enables.getLsbD 0 = true ∧ enables.getLsbD 1 = true) →
      exec (.platenBroadcastWrite addr enables data) s = .next { s with
        pass := { s.pass with reply := .wrote }
        att := s.att.offer .partialWrite 1 (BitVec.setWidth 8 enables) }

/-! ## Daylight commands -/

/-- LOAD on an enabled VACANT daylight with CLOSED deasserted, from a COMPLETE slot, with a serial left: the panel
counter is issued and advances, the last-serial word is queued, the daylight is LOADED with a fresh record from the
charge, the slot is FREE, and the write carries DONE (R45 to R48, R122, R123, R177). -/
def Obligations.LoadOpensTheRecord : Prop :=
  ∀ (s : State) (w : CommandWrite) (d : Fin 4) (i : Fin 6), s.commandArrives w (dayChannel d) = true →
    s.chans[dayChannel d].phase = .idle → s.loadAllowed d = true → s.days[d].state = .vacant →
    w.argument.toNat = i.val → s.level (.closed d) = false → s.weigh.charges[i].state = .complete →
    s.hist.counter ≠ 0 → s.hist.counter ≠ 0xFFFFFFFF →
    ∃ t, exec (.load w) s = .next t
      ∧ t = { s with days := t.days, weigh := t.weigh, hist := t.hist, pass := t.pass, mem := t.mem }
      ∧ t.wordPassed s w.addr w.enables (wordOf 0x01 w.tag w.argument 0x02)
      ∧ t.hist = { s.hist with counter := s.hist.counter + 1 }
      ∧ t.days = s.days.set d { s.days[d] with
          state := .loaded
          recipe := s.weigh.charges[i].recipe.cure
          dose := 0, sweeps := 0, gap := 0, totalGap := 0, interruptions := 0, minTemp := none, maxTemp := none
          fault := .none, attempts := 0
          serial := s.hist.counter
          chargeId := s.weigh.charges[i].id
          record := some ⟨s.weigh.charges[i].head, s.weigh.charges[i].plies, s.weigh.charges[i].total, s.time,
            none, none, [], 0, false, false, false⟩ }
      ∧ t.weigh.charges = s.weigh.charges.set i { s.weigh.charges[i] with state := .free }
      ∧ (∀ h : Fin 4, s.weigh.heads[h].held ≠ some i → t.weigh.heads[h] = s.weigh.heads[h])
      ∧ t.weigh.nextId = s.weigh.nextId ∧ t.weigh.slot = s.weigh.slot
      ∧ t.pass.queue
          = (s.pass.place ⟨mapAddr 0x01C, BitVec.ofNat 32 s.hist.counter, .lastSerial⟩).queue

/-- DEMOULD on an enabled CURED daylight with CLOSED, CELL STOP and EJECTED deasserted and a backlog slot to reserve
is ACCEPTED: the slot is reserved, the daylight is DEMOULDING, its sequence is EXTENDING on its first attempt with
EJECT driven, and the channel is BUSY with the command's stamp (R57, R58, R100, R101, R178). -/
def Obligations.DemouldStartsTheStroke : Prop :=
  ∀ (s : State) (w : CommandWrite) (d : Fin 4), s.commandArrives w (dayChannel d) = true →
    s.chans[dayChannel d].phase = .idle → s.dayEnabled d = true → s.days[d].state = .cured →
    s.level (.closed d) = false → s.level .cellStop = false → s.level (.ejected d) = false →
    s.hist.occupied + s.hist.reserved < 4 →
    ∃ t, exec (.demould w) s = .next t
      ∧ t = { s with
          days := t.days, seqs := t.seqs, hist := t.hist, pass := t.pass, chans := t.chans, mem := t.mem }
      ∧ t.wordPassed s w.addr w.enables (wordOf 0x02 w.tag w.argument 0x01) ∧ t.queueKept s
      ∧ t.hist = { s.hist with reserved := s.hist.reserved + 1 }
      ∧ t.days = s.days.set d { s.days[d] with state := .demoulding, reserved := true }
      ∧ t.seqs = s.seqs.set d ⟨.extending, s.days[d].recipe.stroke, s.days[d].recipe.retries, s.days[d].recipe.dwell,
          1, .none, .none, some (s.time + BitVec.ofNat 32 s.days[d].recipe.stroke)⟩
      ∧ t.seqs[d].ejectDrive = true
      ∧ t.chans = s.chans.set (dayChannel d)
          ⟨.running, some ⟨0x02, w.tag, w.argument, w.addr⟩, false, none, false, t.portIdle⟩

/-- ABORT on a BUSY channel whose demould runs takes over the stamp. With no stop reason fixed and EJECTED asserted
the stroke goes to FINAL RETRACT with reason ABORTED; with EJECTED deasserted it ends ABORTED at once and the daylight
is FAULTED; after a CONFIRMED stroke nothing of the sequence changes (R59, R61, R103, R104, R106, R179). -/
def Obligations.AbortStopsTheStroke : Prop :=
  ∀ (s : State) (w : CommandWrite) (d : Fin 4), s.commandArrives w (dayChannel d) = true →
    s.chans[dayChannel d].phase = .running → s.chans[dayChannel d].abort = false → s.dayEnabled d = true →
    s.days[d].state = .demoulding →
    ∃ t, exec (.abort w) s = .next t
      ∧ t = { s with
          days := t.days, seqs := t.seqs, hist := t.hist, att := t.att, pass := t.pass, chans := t.chans
          mem := t.mem }
      ∧ t.wordPassed s w.addr w.enables (wordOf 0x03 w.tag w.argument 0x01)
      ∧ t.chans[dayChannel d].stamp = some ⟨0x03, w.tag, w.argument, w.addr⟩
      ∧ t.chans[dayChannel d].abort = true
      ∧ (s.seqs[d].phase.stoppable = true → ¬ (s.seqs[d].phase = .retracting ∧ s.seqs[d].last = .confirmed) →
          s.seqs[d].stop = .none →
          (s.level (.ejected d) = true →
            t.seqs = s.seqs.set d { s.seqs[d] with
              phase := .finalRetract, stop := .aborted
              expiry := some (s.time + BitVec.ofNat 32 s.seqs[d].stroke) }
            ∧ t.days = s.days ∧ t.hist = s.hist ∧ t.att = s.att ∧ t.chans[dayChannel d].phase = .running)
          ∧ (s.level (.ejected d) = false →
            t.seqs = s.seqs.set d { s.seqs[d] with phase := .idle, stop := .aborted, expiry := none }
            ∧ t.days = s.days.set d { s.days[d] with
                state := .faulted, fault := .aborted, attempts := s.seqs[d].attempts, reserved := false }
            ∧ t.hist = { s.hist with reserved := s.hist.reserved - 1 }
            ∧ t.att = s.att.offer .demouldFailed (byteOf d.val) 0x83
            ∧ t.chans[dayChannel d].phase = .stamping ∧ t.chans[dayChannel d].completion = some 0x83))
      ∧ (s.seqs[d].phase = .retracting → s.seqs[d].last = .confirmed →
          t.seqs = s.seqs ∧ t.days = s.days ∧ t.hist = s.hist ∧ t.att = s.att
            ∧ t.chans[dayChannel d].phase = .running)

/-- SCRAP and MANUAL RELEASE, each in its states and with a backlog slot to be had, close the open record into the
slot at the fill position with their outcome, leave the daylight VACANT, and carry DONE (R62, R63, R64, R115). -/
def Obligations.ScrapAndManualReleaseCloseTheRecord : Prop :=
  ∀ (s : State) (w : CommandWrite) (d : Fin 4) (r : OpenRecord), s.commandArrives w (dayChannel d) = true →
    s.chans[dayChannel d].phase = .idle → s.dayEnabled d = true → s.days[d].record = some r →
    s.hist.occupied + s.hist.reserved < 4 →
    ∀ (c : Instr) (code : Byte) (outcome : RecordOutcome),
      ((c = .scrap w ∧ code = 0x04 ∧ outcome = .scrapped
          ∧ (s.days[d].state = .loaded ∨ s.days[d].state = .curing ∨ s.days[d].state = .held
              ∨ s.days[d].state = .cured ∨ s.days[d].state = .faulted))
        ∨ (c = .manualRelease w ∧ code = 0x05 ∧ outcome = .manual ∧ s.days[d].state = .faulted)) →
      ∃ t, exec c s = .next t
        ∧ t = { s with days := t.days, hist := t.hist, att := t.att, pass := t.pass, mem := t.mem }
        ∧ t.wordPassed s w.addr w.enables (wordOf code w.tag w.argument 0x02)
        ∧ t.days = s.days.set d { s.days[d] with state := .vacant, record := none, reserved := false }
        ∧ t.hist.backlog = s.hist.backlog.set s.hist.fill
            (recordBytes d s.days[d] r outcome s.time s.maps.generation)
        ∧ t.hist.fill = s.hist.fill + 1 ∧ t.hist.occupied = s.hist.occupied + 1
        ∧ t.hist.reserved = s.hist.reserved ∧ t.hist.oldest = s.hist.oldest
        ∧ t.hist.counter = s.hist.counter ∧ t.hist.ring = s.hist.ring ∧ t.hist.write = s.hist.write

/-! ## The other channels -/

/-- RESTART LINK on the IDLE link channel starts discovery at once in any link state and makes the channel BUSY; with
no module expected discovery ends in the same step, with DONE as completion (R14, R17, R21, R178). -/
def Obligations.RestartLinkStartsDiscovery : Prop :=
  ∀ (s : State) (w : CommandWrite), s.commandArrives w linkChannel = true → s.chans[linkChannel].phase = .idle →
    ∃ t, exec (.restartLink w) s = .next t
      ∧ t = { s with
          link := t.link, att := t.att, pass := t.pass, chans := t.chans, mem := t.mem, choice := t.choice }
      ∧ t.wordPassed s w.addr w.enables (wordOf 0x21 w.tag w.argument 0x01)
      ∧ t.link = { s.link with
          state := if s.cell.modules = 0 then .running else .discovering
          health := 0, found := 0, probes := 0, queue := [], ride := 0, restarted := true
          restart := decide (s.cell.modules ≠ 0)
          modules := Vector.replicate 10 ⟨.unknown, 0, false, false⟩ }
      ∧ (s.link.queue = [] → t.att = s.att)
      ∧ t.chans[linkChannel].stamp = some ⟨0x21, w.tag, w.argument, w.addr⟩
      ∧ t.chans[linkChannel].phase = (if s.cell.modules = 0 then .stamping else .running)
      ∧ t.chans[linkChannel].completion = (if s.cell.modules = 0 then some 0x02 else none)

/-- SET LINE: a line above 31 is refused BAD ARGUMENT, a line that is no OUTPUT is refused NOT OUTPUT, otherwise the
latch takes the level, the pin follows through the polarity and the outcome is DONE; no cause is raised, and any other
code on the lines channel is refused UNKNOWN CODE (R96). -/
def Obligations.SetLineDrivesTheLatch : Prop :=
  ∀ (s : State) (w : CommandWrite), s.commandArrives w linesChannel = true → s.chans[linesChannel].phase = .idle →
    (32 ≤ (w.argument.extractLsb' 0 7).toNat →
      ∃ t, exec (.setLine w) s = .next t ∧ t = { s with pass := t.pass, mem := t.mem }
        ∧ t.wordPassed s w.addr w.enables (wordOf 0x31 w.tag w.argument 0x41) ∧ t.queueKept s)
    ∧ (∀ n : Fin 32, (w.argument.extractLsb' 0 7).toNat = n.val → s.cell.lines[n].mode ≠ 2 →
      ∃ t, exec (.setLine w) s = .next t ∧ t = { s with pass := t.pass, mem := t.mem }
        ∧ t.wordPassed s w.addr w.enables (wordOf 0x31 w.tag w.argument 0x4C) ∧ t.queueKept s)
    ∧ (∀ n : Fin 32, (w.argument.extractLsb' 0 7).toNat = n.val → s.cell.lines[n].mode = 2 →
      ∃ t, exec (.setLine w) s = .next t ∧ t = { s with lines := t.lines, pass := t.pass, mem := t.mem }
        ∧ t.lines = s.lines.set n { s.lines[n] with latch := w.argument.getLsbD 7 }
        ∧ t.pinDrive n = some (w.argument.getLsbD 7 != (s.cell.lines[n].polarity == 1))
        ∧ t.wordPassed s w.addr w.enables (wordOf 0x31 w.tag w.argument 0x02) ∧ t.queueKept s)
    ∧ ∀ code : Byte, code ≠ 0x31 →
      ∃ t, exec (.unknownCode w.addr w.enables (wordOf code w.tag w.argument w.outcome)) s = .next t
        ∧ t = { s with pass := t.pass, mem := t.mem }
        ∧ t.wordPassed s w.addr w.enables (wordOf code w.tag w.argument 0x40)

/-- OPEN CHARGE on a READY, settled head that holds no OPEN charge, for a valid recipe, with a FREE slot and the
fetched interval's condition met, opens the lowest-numbered FREE slot with the settled weight as reference (R78 to R80,
R88). -/
def Obligations.OpenChargeTakesTheLowestFreeSlot : Prop :=
  ∀ (s : State) (w : CommandWrite) (h : Fin 4) (i : Fin 6) (r : Fin 16) (weight : Int),
    s.commandArrives w (headChannel h) = true → s.chans[headChannel h].phase = .idle →
    s.weigh.heads[h].state = .ready → s.openAllowed h = true → w.argument.toNat = r.val →
    s.cell.recipes[r].valid = true → s.weigh.heads[h].held = none → s.settled h = some weight →
    s.weigh.charges[i].state = .free → (∀ j : Fin 6, j < i → s.weigh.charges[j].state ≠ .free) →
    ∃ t, exec (.openCharge w) s = .next t
      ∧ t = { s with weigh := t.weigh, pass := t.pass, mem := t.mem }
      ∧ t.wordPassed s w.addr w.enables (wordOf 0x11 w.tag w.argument 0x02) ∧ t.queueKept s
      ∧ t.weigh = { s.weigh with
          charges := s.weigh.charges.set i ⟨.opened, h, s.weigh.nextId, ⟨r.val, s.cell.recipes[r]⟩, weight, [], 0,
            .none, 0xFFFFFFFF#32⟩
          heads := s.weigh.heads.set h { s.weigh.heads[h] with held := some i }
          nextId := if 65535 ≤ s.weigh.nextId then 1 else s.weigh.nextId + 1 }

/-- CLOSE CHARGE on an enabled head with an OPEN charge judges it: NO PLIES, UNDER, OVER or COMPLETE, sets its
completion time, frees the head, and raises CHARGE COMPLETE or CHARGE REJECTED (R78, R84). -/
def Obligations.CloseChargeJudges : Prop :=
  ∀ (s : State) (w : CommandWrite) (h : Fin 4) (i : Fin 6),
    s.commandArrives w (headChannel h) = true → s.chans[headChannel h].phase = .idle →
    s.weigh.heads[h].state ≠ .disabled → s.weigh.heads[h].held = some i →
    let c := s.weigh.charges[i]
    let reason : ChargeReason :=
      if c.plies = [] then .noPlies
      else if c.total < c.recipe.entry.target - c.recipe.entry.tolerance then .under
      else if c.recipe.entry.target + c.recipe.entry.tolerance < c.total then .over
      else .none
    ∃ t, exec (.closeCharge w) s = .next t
      ∧ t = { s with weigh := t.weigh, att := t.att, pass := t.pass, mem := t.mem }
      ∧ t.wordPassed s w.addr w.enables (wordOf 0x12 w.tag w.argument 0x02) ∧ t.queueKept s
      ∧ t.weigh = { s.weigh with
          charges := s.weigh.charges.set i { c with
            state := if reason = .none then .complete else .rejected, reason := reason, completed := s.time }
          heads := s.weigh.heads.set h { s.weigh.heads[h] with held := none } }
      ∧ t.att = if reason = .none then s.att.offer .chargeComplete (byteOf i.val) (byteOf c.plies.length)
          else s.att.offer .chargeRejected (byteOf i.val) reason.code

/-- DISCARD CHARGE on any head channel: an argument above 5 is refused BAD ARGUMENT and a FREE slot WRONG STATE;
otherwise the slot becomes FREE whatever its state, a head whose OPEN charge it was no longer holds it, and no cause
is raised (R86). -/
def Obligations.DiscardChargeFreesTheSlot : Prop :=
  ∀ (s : State) (w : CommandWrite) (h : Fin 4), s.commandArrives w (headChannel h) = true →
    s.chans[headChannel h].phase = .idle →
    (5 < w.argument.toNat →
      ∃ t, exec (.discardCharge w) s = .next t ∧ t = { s with pass := t.pass, mem := t.mem }
        ∧ t.wordPassed s w.addr w.enables (wordOf 0x13 w.tag w.argument 0x41) ∧ t.queueKept s)
    ∧ (∀ i : Fin 6, w.argument.toNat = i.val → s.weigh.charges[i].state = .free →
      ∃ t, exec (.discardCharge w) s = .next t ∧ t = { s with pass := t.pass, mem := t.mem }
        ∧ t.wordPassed s w.addr w.enables (wordOf 0x13 w.tag w.argument 0x42) ∧ t.queueKept s)
    ∧ ∀ i : Fin 6, w.argument.toNat = i.val → s.weigh.charges[i].state ≠ .free →
      ∃ t, exec (.discardCharge w) s = .next t ∧ t = { s with weigh := t.weigh, pass := t.pass, mem := t.mem }
        ∧ t.wordPassed s w.addr w.enables (wordOf 0x13 w.tag w.argument 0x02) ∧ t.queueKept s
        ∧ t.weigh = { s.weigh with charges := t.weigh.charges, heads := t.weigh.heads }
        ∧ t.weigh.charges = s.weigh.charges.set i { s.weigh.charges[i] with state := .free }
        ∧ ∀ k : Fin 4, t.weigh.heads[k] = if s.weigh.heads[k].held = some i then
            { s.weigh.heads[k] with held := none } else s.weigh.heads[k]

/-- An owner that refuses a command leaves the whole state as it was (R177). -/
def Obligations.RefusedCommandHasNoEffect : Prop :=
  ∀ (s : State) (c : Fin 10) (w : Stamp), (s.ownerDecision c w).1 ≠ 0x01 → (s.ownerDecision c w).1 ≠ 0x02 →
    (s.ownerDecision c w).2 = s

/-- The tests of a write in the COMMAND window before the owner: offset 0x028 is suppressed with WRITE TO OWNED
WINDOW, a partial write with PARTIAL WRITE, a write to a BUSY channel with COMMAND WHILE BUSY; a code not listed for
the channel is refused UNKNOWN CODE in the word that reaches memory (R176). -/
def Obligations.CommandWriteTests : Prop :=
  ∀ (s : State) (addr : Addr) (enables : Enables) (data : Word), s.portFree = true →
    (s.region addr = .command 0x28 →
      exec (.unknownCode addr enables data) s = .next { s with
        pass := { s.pass with reply := .wrote }, att := s.att.offer .writeToOwnedWindow 3 0 })
    ∧ ∀ c : Fin 10, s.region addr = .command (4 * c.val) →
      (enables ≠ 0xF#4 → exec (.unknownCode addr enables data) s = .next { s with
        pass := { s.pass with reply := .wrote }
        att := s.att.offer .partialWrite 3 (BitVec.setWidth 8 enables) })
      ∧ (enables = 0xF#4 → s.channelBusy c (wordByte data 0) = true →
        exec (.unknownCode addr enables data) s = .next { s with
          pass := { s.pass with reply := .wrote }
          att := s.att.offer .commandWhileBusy (byteOf c.val) (wordByte data 0) })
      ∧ (enables = 0xF#4 → s.chans[c].phase = .idle → wordByte data 0 ∉ (channelOwner c).codes →
        ∃ t, exec (.unknownCode addr enables data) s = .next t ∧ t = { s with pass := t.pass, mem := t.mem }
          ∧ t.wordPassed s addr enables
              (wordOf (wordByte data 0) (wordByte data 1) (wordByte data 2) 0x40) ∧ t.queueKept s)

/-! ## Lines and strokes -/

/-- One sample: cell time advances by 1 ms; a sampled line whose level equals its debounced level has run count 0, one
that differs counts up, and the fifth differing sample changes the debounced level; a line that is not sampled is as
before. DEBOUNCED_CHANGE of a line is the sample that changes it (R92; cell time at the sample: the model's reading of
00_scope.md Table 0-4, log 3). -/
def Obligations.FifthSampleChangesTheLevel : Prop :=
  ∀ (s : State) (pins : BitVec 32), ∃ t, exec (.sample pins) s = .next t
    ∧ t = { s with
        time := s.time + 1, lines := t.lines, days := t.days, seqs := t.seqs, hist := t.hist, att := t.att
        pass := t.pass, chans := t.chans, offers := t.offers, choice := t.choice }
    ∧ ∀ n : Fin 32,
      let e := s.cell.lines[n]
      let level := pins.getLsbD n.val != (e.polarity == 1)
      (e.sampled = false → t.lines[n] = s.lines[n])
      ∧ (e.sampled = true → level = s.lines[n].level → t.lines[n] = { s.lines[n] with run := 0 })
      ∧ (e.sampled = true → level ≠ s.lines[n].level → s.lines[n].run < 4 →
          t.lines[n] = { s.lines[n] with run := s.lines[n].run + 1 })
      ∧ (e.sampled = true → level ≠ s.lines[n].level → 4 ≤ s.lines[n].run →
          t.lines[n] = { s.lines[n] with level := level, run := 0 }
            ∧ exec (.debouncedChange n pins) s = .next t)

/-- The one changing line of a sample is CLOSED of daylight `d`: asserting, it makes a LOADED daylight CURING with its
cure start set and a HELD one CURING again; deasserting, it makes a CURING daylight HELD, counts an interruption and
raises CURE INTERRUPTED; a CURED daylight keeps its state; asserting in a stroke it stops the sequence. It is EJECTED:
asserting in EXTENDING, the stroke is CONFIRMED and retracts; deasserting in RETRACTING, a CONFIRMED stroke ends with
success, the record closed RELEASED and DONE handed over, and a FAILED one dwells, extends again at once when the dwell
is 0, or ends STUCK; deasserting in FINAL RETRACT, the sequence fails with its stop reason. It is CELL STOP: asserting, it
stops every running stroke and raises CELL STOP with the daylights stopped. A stopped sequence waits in FINAL RETRACT
while EJECTED is asserted, and fails at once otherwise (R49, R50, R60, R61, R93, R94, R101 to R105). The cell time of
the sample is s.time + 1: the model's choice, log 3. -/
def Obligations.ClosedLineMovesTheDaylight : Prop :=
  (∀ (s : State) (pins : BitVec 32) (n : Fin 32) (d : Fin 4), s.offers = [] → s.changing pins = [n] →
    s.cell.lines[n].function? = some (.closed d) → s.seqs[d].phase = .idle →
    ∃ t, exec (.debouncedChange n pins) s = .next t ∧ t.seqs = s.seqs
      ∧ (s.lines[n].level = false → t.att = s.att
          ∧ (s.days[d].state = .loaded → t.days = s.days.set d { s.days[d] with
              state := .curing
              record := s.days[d].record.map fun r => { r with cureStart := some (s.time + 1) } })
          ∧ (s.days[d].state = .held → t.days = s.days.set d { s.days[d] with state := .curing })
          ∧ (s.days[d].state ≠ .loaded → s.days[d].state ≠ .held → t.days = s.days))
      ∧ (s.lines[n].level = true →
          (s.days[d].state = .curing → t.days = s.days.set d { s.days[d] with
              state := .held, interruptions := min 255 (s.days[d].interruptions + 1) }
            ∧ t.att = s.att.offer .cureInterrupted (byteOf d.val) (byteOf (min 255 (s.days[d].interruptions + 1))))
          ∧ (s.days[d].state ≠ .curing → t.days = s.days ∧ t.att = s.att)))
    ∧ (∀ (s : State) (pins : BitVec 32) (n : Fin 32) (d : Fin 4), s.offers = [] → s.changing pins = [n] →
      s.cell.lines[n].function? = some (.closed d) → s.lines[n].level = false → s.days[d].state = .demoulding →
      s.seqs[d].phase.stoppable = true → s.seqs[d].stop = .none →
      ∃ t, exec (.debouncedChange n pins) s = .next t
        ∧ (s.level (.ejected d) = true → t.days = s.days ∧ t.att = s.att
            ∧ t.seqs = s.seqs.set d { s.seqs[d] with
                phase := .finalRetract, stop := .closedDuring
                expiry := some (s.time + 1 + BitVec.ofNat 32 s.seqs[d].stroke) })
        ∧ (s.level (.ejected d) = false → t.demouldFailedAt s d .closedDuring ∧ t.seqs[d].stop = .closedDuring
            ∧ t.att = s.att.offer .demouldFailed (byteOf d.val) 0x84))
    ∧ (∀ (s : State) (pins : BitVec 32) (n : Fin 32) (d : Fin 4), s.offers = [] → s.changing pins = [n] →
      s.cell.lineOf (.ejected d) = some n →
      ∃ t, exec (.debouncedChange n pins) s = .next t
        ∧ (s.lines[n].level = false → t.days = s.days ∧ t.hist = s.hist ∧ t.att = s.att ∧ t.chans = s.chans
            ∧ t.seqs = if s.seqs[d].phase = .extending then s.seqs.set d { s.seqs[d] with
                phase := .retracting, last := .confirmed
                expiry := some (s.time + 1 + BitVec.ofNat 32 s.seqs[d].stroke) } else s.seqs)
        ∧ (s.lines[n].level = true →
            (s.seqs[d].phase = .retracting → s.seqs[d].last = .confirmed → ∀ r, s.days[d].record = some r →
              t.seqs = s.seqs.set d { s.seqs[d] with phase := .idle, expiry := none }
              ∧ t.days = s.days.set d { s.days[d] with
                  state := .vacant, fault := .none, attempts := s.seqs[d].attempts, record := none, reserved := false }
              ∧ t.hist.backlog = s.hist.backlog.set s.hist.fill
                  (recordBytes d { s.days[d] with fault := .none, attempts := s.seqs[d].attempts } r .released
                    (s.time + 1) s.maps.generation)
              ∧ t.hist.fill = s.hist.fill + 1 ∧ t.hist.occupied = s.hist.occupied + 1
              ∧ t.hist.reserved = s.hist.reserved - 1
              ∧ (s.chans[dayChannel d].phase = .running →
                  t.chans[dayChannel d].phase = .stamping ∧ t.chans[dayChannel d].completion = some 0x02))
            ∧ (s.seqs[d].phase = .retracting → s.seqs[d].last = .failed →
                (s.seqs[d].attempts < 1 + s.seqs[d].retries → t.days = s.days ∧ t.hist = s.hist ∧ t.att = s.att
                  ∧ t.seqs = s.seqs.set d (if s.seqs[d].dwell = 0 then { s.seqs[d] with
                      phase := .extending, attempts := s.seqs[d].attempts + 1, last := .none
                      expiry := some (s.time + 1 + BitVec.ofNat 32 s.seqs[d].stroke) }
                    else { s.seqs[d] with
                      phase := .dwell, expiry := some (s.time + 1 + BitVec.ofNat 32 s.seqs[d].dwell) }))
                ∧ (¬ s.seqs[d].attempts < 1 + s.seqs[d].retries → t.demouldFailedAt s d .stuck
                  ∧ t.att = s.att.offer .demouldFailed (byteOf d.val) 0x80))
            ∧ (s.seqs[d].phase = .finalRetract → t.demouldFailedAt s d s.seqs[d].stop.fault
                ∧ t.att = s.att.offer .demouldFailed (byteOf d.val) s.seqs[d].stop.fault.code)
            ∧ (s.seqs[d].phase = .idle ∨ s.seqs[d].phase = .extending ∨ s.seqs[d].phase = .dwell →
                t.seqs = s.seqs ∧ t.days = s.days ∧ t.hist = s.hist ∧ t.att = s.att ∧ t.chans = s.chans)))
    ∧ ∀ (s : State) (pins : BitVec 32) (n : Fin 32), s.offers = [] → s.changing pins = [n] →
      s.cell.lines[n].function? = some .cellStop →
      ∃ t, exec (.debouncedChange n pins) s = .next t
        ∧ (s.lines[n].level = true → t.seqs = s.seqs ∧ t.days = s.days ∧ t.hist = s.hist ∧ t.att = s.att)
        ∧ (s.lines[n].level = false →
            (∀ d : Fin 4, s.seqs[d].phase.stoppable = false → t.seqs[d] = s.seqs[d] ∧ t.days[d] = s.days[d])
            ∧ (∀ d : Fin 4, s.seqs[d].phase.stoppable = true → s.seqs[d].stop = .none →
                t.seqs[d].stop = .stopped
                ∧ (s.level (.ejected d) = true → t.seqs[d].phase = .finalRetract
                    ∧ t.seqs[d].expiry = some (s.time + 1 + BitVec.ofNat 32 s.seqs[d].stroke)
                    ∧ t.days[d] = s.days[d])
                ∧ (s.level (.ejected d) = false → t.demouldFailedAt s d .stopped))
            ∧ ((∀ d : Fin 4, s.seqs[d].phase.stoppable = true → s.level (.ejected d) = true) →
                t.att = s.att.offer .cellStop 0 (byteOf (((List.finRange 4).filter fun d =>
                  s.seqs[d].phase.stoppable && s.seqs[d].stop == .none).map fun d => 2 ^ d.val).sum)))

/-- The stroke timers. EXTENDING: the attempt has failed, EJECTOR ATTEMPT FAILED is raised, and with EJECTED asserted
the sequence waits in RETRACTING; with it deasserted it dwells while attempts are left, extends again at once when the dwell is 0, and otherwise ends
STUCK.
RETRACTING, FINAL RETRACT, and DWELL with EJECTED asserted: NOT HOME, the daylight is FAULTED and its reservation
released. DWELL with EJECTED deasserted: the next attempt (R61, R101, R102, R104). -/
def Obligations.StrokeTimers : Prop :=
  ∀ (s : State) (d : Fin 4), s.offers = [] →
    (s.timerDue d .extending = true → s.level (.ejected d) = true →
      ∃ t, exec (.strokeTimeout d) s = .next t ∧ t = { s with seqs := t.seqs, att := t.att }
        ∧ t.seqs = s.seqs.set d { s.seqs[d] with
            phase := .retracting, last := .failed, expiry := some (s.time + BitVec.ofNat 32 s.seqs[d].stroke) }
        ∧ t.att = s.att.offer .ejectorAttemptFailed (byteOf d.val) (byteOf s.seqs[d].attempts))
    ∧ (s.timerDue d .extending = true → s.level (.ejected d) = false →
        s.seqs[d].attempts < 1 + s.seqs[d].retries → s.seqs[d].dwell ≠ 0 →
      ∃ t, exec (.strokeTimeout d) s = .next t ∧ t = { s with seqs := t.seqs, att := t.att }
        ∧ t.seqs = s.seqs.set d { s.seqs[d] with
            phase := .dwell, last := .failed, expiry := some (s.time + BitVec.ofNat 32 s.seqs[d].dwell) }
        ∧ t.att = s.att.offer .ejectorAttemptFailed (byteOf d.val) (byteOf s.seqs[d].attempts))
    ∧ (s.timerDue d .extending = true → s.level (.ejected d) = false →
        s.seqs[d].attempts < 1 + s.seqs[d].retries → s.seqs[d].dwell = 0 →
      ∃ t, exec (.strokeTimeout d) s = .next t ∧ t = { s with seqs := t.seqs, att := t.att }
        ∧ t.seqs = s.seqs.set d { s.seqs[d] with
            phase := .extending, last := .none, attempts := s.seqs[d].attempts + 1
            expiry := some (s.time + BitVec.ofNat 32 s.seqs[d].stroke) }
        ∧ t.att = s.att.offer .ejectorAttemptFailed (byteOf d.val) (byteOf s.seqs[d].attempts))
    ∧ (s.timerDue d .extending = true → s.level (.ejected d) = false →
        ¬ s.seqs[d].attempts < 1 + s.seqs[d].retries →
      ∃ t, exec (.strokeTimeout d) s = .next t ∧ t.seqs[d].phase = .idle
        ∧ t.days = s.days.set d { s.days[d] with
            state := .faulted, fault := .stuck, attempts := s.seqs[d].attempts, reserved := false }
        ∧ t.hist = { s.hist with reserved := s.hist.reserved - 1 })
    ∧ (∀ c : Instr, (c = .retractTimeout d ∧ s.timerDue d .retracting = true)
          ∨ (c = .finalRetractTimeout d ∧ s.timerDue d .finalRetract = true)
          ∨ (c = .dwellExpiry d ∧ s.timerDue d .dwell = true ∧ s.level (.ejected d) = true) →
      ∃ t, exec c s = .next t
        ∧ t = { s with
            days := t.days, seqs := t.seqs, hist := t.hist, att := t.att, pass := t.pass, chans := t.chans }
        ∧ t.seqs = s.seqs.set d { s.seqs[d] with phase := .idle, expiry := none }
        ∧ t.days = s.days.set d { s.days[d] with
            state := .faulted, fault := .notHome, attempts := s.seqs[d].attempts, reserved := false }
        ∧ t.hist = { s.hist with reserved := s.hist.reserved - 1 }
        ∧ t.att = s.att.offer .demouldFailed (byteOf d.val) 0x81
        ∧ (s.chans[dayChannel d].phase = .running →
            t.chans[dayChannel d].phase = .stamping ∧ t.chans[dayChannel d].completion = some 0x81))
    ∧ (s.timerDue d .dwell = true → s.level (.ejected d) = false →
      ∃ t, exec (.dwellExpiry d) s = .next t ∧ t = { s with seqs := t.seqs }
        ∧ t.seqs = s.seqs.set d { s.seqs[d] with
            phase := .extending, attempts := s.seqs[d].attempts + 1, last := .none
            expiry := some (s.time + BitVec.ofNat 32 s.seqs[d].stroke) })

/-! ## Weighing -/

/-- A slot with no answer wait open polls the next enabled head in rotation, with the poll frame of 11.6; with no head
enabled nothing is polled (R69, R70). -/
def Obligations.PollAddressesTheNextHead : Prop :=
  ∀ s : State, s.offers = [] → s.weigh.slot = none →
    (∀ h : Fin 4, nextHead s.cell.enabledHeads s.weigh.lastPolled = some h →
      s.cell.headEnable.getLsbD h.val = true
        ∧ exec .poll s = .next { s with
            weigh := { s.weigh with
              lastPolled := some h, buffer := [], overlong := false
              slot := some ⟨h, [0x7E, byteOf (h.val + 1), crcLow [0x7E, byteOf (h.val + 1)]], false⟩ } })
    ∧ ((∀ h : Fin 4, s.cell.headEnable.getLsbD h.val = false) → exec .poll s = .next s)

/-- A slot that ends without an answer is a miss of the polled head: its window is emptied and its miss count rises;
the tenth in a row makes an UNKNOWN or READY head SILENT, raises HEAD SILENT and makes its OPEN charge SUSPECT. A slot
whose result is discarded changes no head (R69, R70, R74, R83). -/
def Obligations.UnansweredSlotIsAMiss : Prop :=
  ∀ (s : State) (p : PollSlot), s.offers = [] → s.weigh.slot = some p →
    (p.discard = true → exec .answerWaitExpiry s = .next { s with weigh := { s.weigh with slot := none } })
    ∧ (p.discard = false → s.weigh.heads[p.head].misses < 9 →
        exec .answerWaitExpiry s = .next { s with
          weigh := { s.weigh with
            slot := none
            heads := s.weigh.heads.set p.head { s.weigh.heads[p.head] with
              window := [], misses := s.weigh.heads[p.head].misses + 1 } } })
    ∧ (p.discard = false → 9 ≤ s.weigh.heads[p.head].misses →
        s.weigh.heads[p.head].state = .unknown ∨ s.weigh.heads[p.head].state = .ready →
        ∃ t, exec (.headSilent p.head none) s = .next t ∧ exec .answerWaitExpiry s = .next t
          ∧ t.weigh.heads[p.head].state = .silent ∧ t.weigh.heads[p.head].misses = 10
          ∧ t.weigh.heads[p.head].window = [] ∧ t.weigh.heads[p.head].held = none
          ∧ (s.weigh.heads[p.head].held = none → t.weigh.charges = s.weigh.charges
              ∧ t.att = s.att.offer .headSilent (byteOf p.head.val) 0)
          ∧ (∀ i : Fin 6, s.weigh.heads[p.head].held = some i → t.weigh.charges = s.weigh.charges.set i
              { s.weigh.charges[i] with state := .suspect, reason := .headSilent, completed := s.time }))

/-- An answer in the open slot. Either way the slot receives nothing more: the model's choice, log 33. Discarded:
WEIGH LINE ERROR with its kind, the error count and a miss. Valid, with no OPEN charge or not settling the head: the
misses are cleared, an UNKNOWN or SILENT head is READY, the answer is kept, and the window takes the weight or, on any
flag, is emptied. Valid, settling the head on a rise that is a ply of its OPEN charge: the ply is appended. On a fall
that matches the last ply within the band: that ply is removed and its mass leaves the total. On a rise above 65535 or
past the ply list's room, or a fall that matches no last ply: the charge is SUSPECT with that reason, its completion
time set, and the head holds it no longer. On a smaller drift nothing changes (R72, R74, R75, R81, R82, R83). -/
def Obligations.AnswersAreTakenOrDiscarded : Prop :=
  ∀ (s : State) (p : PollSlot) (chars : List RxChar), s.offers = [] → s.weigh.slot = some p → p.discard = false →
    let x := s.weigh.heads[p.head]
    (∀ kind : Byte, evaluateAnswer p.head chars = .error kind → x.misses < 9 →
      ∃ t, exec (.answerEnd chars) s = .next t ∧ t = { s with weigh := t.weigh, att := t.att }
        ∧ t.att = s.att.offer .weighLineError (byteOf p.head.val) kind
        ∧ t.weigh.charges = s.weigh.charges ∧ t.weigh.slot = none
        ∧ t.weigh.heads = s.weigh.heads.set p.head
            { x with errors := min 65535 (x.errors + 1), window := [], misses := x.misses + 1 })
    ∧ (∀ a : Answer, evaluateAnswer p.head chars = .ok a →
      x.held = none ∨ settledWeight (x.answer a s.cell.settle).window s.cell.settle s.cell.band = none →
      ∃ t, exec (.answerEnd chars) s = .next t ∧ t = { s with weigh := t.weigh }
        ∧ t.weigh.charges = s.weigh.charges ∧ t.weigh.slot = none
        ∧ t.weigh.heads = s.weigh.heads.set p.head { x with
            misses := 0
            state := if x.state = .unknown ∨ x.state = .silent then .ready else x.state
            last := some a
            window := if a.flags ≠ 0 then [] else
              (if s.cell.settle ≤ x.window.length then x.window.tail else x.window) ++ [a.weight] })
    ∧ (∀ (a : Answer) (i : Fin 6) (weight : Int), evaluateAnswer p.head chars = .ok a → x.held = some i →
      x.state = .ready → settledWeight (x.answer a s.cell.settle).window s.cell.settle s.cell.band = some weight →
      let c := s.weigh.charges[i]
      (c.recipe.entry.minPly : Int) ≤ weight - c.reference → weight - c.reference ≤ 65535 →
      c.plies.length < c.recipe.entry.maxPlies →
      ∃ t, exec (.answerEnd chars) s = .next t ∧ t = { s with weigh := t.weigh }
        ∧ t.weigh.charges = s.weigh.charges.set i { c with
            plies := c.plies ++ [(weight - c.reference).toNat], total := c.total + (weight - c.reference)
            reference := weight })
    ∧ ∀ (a : Answer) (i : Fin 6) (weight : Int), evaluateAnswer p.head chars = .ok a → x.held = some i →
      x.state = .ready → settledWeight (x.answer a s.cell.settle).window s.cell.settle s.cell.band = some weight →
      let c := s.weigh.charges[i]
      let least : Int := c.recipe.entry.minPly
      let diff := weight - c.reference
      let matching := fun ply : Nat => (-diff - (ply : Int)).natAbs ≤ s.cell.band
      ∃ t, exec (.answerEnd chars) s = .next t ∧ t = { s with weigh := t.weigh, att := t.att }
        ∧ (∀ ply : Nat, diff ≤ -least → diff < least → c.plies.getLast? = some ply → matching ply →
            t.att = s.att ∧ t.weigh.charges = s.weigh.charges.set i { c with
              plies := c.plies.dropLast, total := c.total - (ply : Int), reference := weight })
        ∧ (-least < diff → diff < least → t.att = s.att ∧ t.weigh.charges = s.weigh.charges)
        ∧ ∀ reason : ChargeReason,
            (least ≤ diff ∧ 65535 < diff ∧ reason = .plyTooHeavy)
              ∨ (least ≤ diff ∧ diff ≤ 65535 ∧ c.recipe.entry.maxPlies ≤ c.plies.length ∧ reason = .plyListFull)
              ∨ (diff ≤ -least ∧ diff < least ∧ (∀ ply : Nat, c.plies.getLast? = some ply → ¬ matching ply)
                  ∧ reason = .unexplainedRemoval) →
            t.weigh.charges = s.weigh.charges.set i
                { c with state := .suspect, reason := reason, completed := s.time }
              ∧ t.weigh.heads[p.head].held = none
              ∧ t.att = s.att.offer .chargeSuspect (byteOf i.val) reason.code

/-- The expiry check at a whole second of cell time makes every COMPLETE charge whose life is not 0 and whose age has
reached it EXPIRED, and leaves every other slot (R85). -/
def Obligations.ChargesExpireAtTheirLife : Prop :=
  ∀ s : State, s.offers = [] → s.time.toNat % 1000 = 0 →
    ∃ t, exec .chargeExpired s = .next t ∧ t = { s with weigh := t.weigh, att := t.att, choice := t.choice }
      ∧ t.weigh = { s.weigh with charges := t.weigh.charges }
      ∧ ∀ i : Fin 6, t.weigh.charges[i] =
          if s.weigh.charges[i].state = .complete ∧ s.weigh.charges[i].recipe.entry.life ≠ 0
              ∧ s.weigh.charges[i].recipe.entry.life * 60000 ≤ (s.time - s.weigh.charges[i].completed).toNat then
            { s.weigh.charges[i] with state := .expired }
          else s.weigh.charges[i]

/-! ## The injection queue and the history -/

/-- A stamp is placed when its completion is known and the host's write of its command has reached memory, not
before; when it reaches memory the word holds code, tag, argument and completion, and the channel is IDLE with an
empty record (R178); that the abort flag is cleared with the rest is the model's choice, log 36. -/
def Obligations.StampsFollowTheCommand : Prop :=
  (∀ (s : State) (c : Fin 10) (w : Stamp) (code : Byte), s.offers = [] → s.chans[c].phase = .stamping →
      s.chans[c].stamp = some w → s.chans[c].completion = some code → s.chans[c].placed = false →
      (s.chans[c].written = true → exec (.stampPlaced c) s = .next { s with
        chans := s.chans.set c { s.chans[c] with placed := true }
        pass := s.pass.place ⟨w.addr, wordOf w.code w.tag w.argument code, .stamp c⟩ })
      ∧ (s.chans[c].written = false → exec (.stampPlaced c) s = .next s))
    ∧ ∀ (s : State) (c : Fin 10) (e : QEntry) (rest : List QEntry), s.portFree = true → s.pass.queue = e :: rest →
      s.queueOffered = true → e.purpose = .stamp c →
      ∃ t, exec (.completionStampReachesMemory c) s = .next t ∧ exec .injectedWriteReachesMemory s = .next t
        ∧ t = { s with mem := t.mem, chans := t.chans, pass := t.pass, maps := t.maps }
        ∧ t.mem = writeWord s.mem (wordBase e.addr) 0xF#4 e.data
        ∧ t.chans = s.chans.set c ⟨.idle, none, false, none, false, false⟩
        ∧ (s.maps.stage ≠ .waiting → t.maps = s.maps)

/-- The queue is first in first out: the entry at its head reaches memory whole, the others keep their order, and the
place it frees goes to the write that has waited longest; a producer's next write then goes behind the other waiting
producers, the model's choice, log 13. In FETCHING no entry is offered (R154, R156). -/
def Obligations.InjectionQueueIsFifo : Prop :=
  (∀ (s : State) (e : QEntry) (rest : List QEntry), s.portFree = true → s.pass.queue = e :: rest →
      s.queueOffered = true → e.purpose = .recordWord ∨ e.purpose = .lastSerial ∨ e.purpose = .indexZero →
      ∃ t, exec .injectedWriteReachesMemory s = .next t
        ∧ t = { s with mem := t.mem, pass := t.pass, maps := t.maps }
        ∧ t.mem = writeWord s.mem (wordBase e.addr) 0xF#4 e.data
        ∧ (s.pass.waiting = [] → t.pass.queue = rest)
        ∧ (∀ (p : Producer) (e' : QEntry) (es : List QEntry) (ws : List (Producer × List QEntry)),
            rest.length < 64 → s.pass.waiting = (p, e' :: es) :: ws → t.pass.queue = rest ++ [e'])
        ∧ (s.maps.stage ≠ .waiting → t.maps = s.maps))
    ∧ (∀ (s : State) (p : Producer) (e : QEntry) (es : List QEntry) (ws : List (Producer × List QEntry)),
        s.portFree = true → s.pass.queue.length < 64 → s.pass.waiting = (p, e :: es) :: ws →
        ∃ t, exec .queuePlace s = .next t
          ∧ t = { s with pass := { s.pass with queue := s.pass.queue ++ [e], waiting := t.pass.waiting } }
          ∧ t.pass.waiting = if es = [] then ws else ws ++ [(p, es)])
    ∧ ∀ s : State, s.offers = [] → s.maps.stage = .fetching → exec .injectedWriteReachesMemory s = .next s

/-- An append begins on a ring that is not full, with its 32 record words and the index word behind them; a full ring
raises RING FULL once per episode; the append ends when its index word reaches memory: the write index advances and
the backlog slot is freed. With a commit SWITCHING, the commit switches at that moment, from the index so advanced
(R118, R119, R120, R125, R170). -/
def Obligations.AppendsBeginAndEnd : Prop :=
  (∀ (s : State) (r : Ring), s.offers = [] → s.hist.ring = some r → 1 ≤ s.hist.occupied → s.hist.append = none →
      s.pass.mapped = true → s.maps.stage ≠ .switching →
      ((s.hist.write + 1) % r.cap ≠ r.read → exec .appendBegin s = .next { s with
        hist := { s.hist with append := some s.hist.write, ringFull := false }
        pass := s.pass.placeAll ((List.range 32).map (fun i =>
            ⟨BitVec.ofNat 24 (r.base + 128 * s.hist.write + 4 * i), word32 s.hist.backlog[s.hist.oldest] (4 * i),
              .recordWord⟩)
          ++ [⟨mapAddr 0x014, BitVec.ofNat 32 ((s.hist.write + 1) % r.cap), .indexWord⟩]) })
      ∧ ((s.hist.write + 1) % r.cap = r.read → s.hist.ringFull = false → exec .appendBegin s = .next { s with
        hist := { s.hist with ringFull := true }
        att := s.att.offer .ringFull 0 (byteOf s.hist.occupied) })
      ∧ ((s.hist.write + 1) % r.cap = r.read → s.hist.ringFull = true → exec .appendBegin s = .next s))
    ∧ (∀ (s : State) (e : QEntry) (rest : List QEntry) (r : Ring) (w : Nat), s.portFree = true →
      s.pass.queue = e :: rest → s.queueOffered = true → e.purpose = .indexWord → s.hist.ring = some r →
      s.hist.append = some w → s.maps.stage ≠ .switching →
      ∃ t, exec .appendEnd s = .next t ∧ exec .injectedWriteReachesMemory s = .next t
        ∧ t = { s with mem := t.mem, hist := t.hist, att := t.att, pass := t.pass, maps := t.maps }
        ∧ t.mem = writeWord s.mem (wordBase e.addr) 0xF#4 e.data
        ∧ t.hist.ring = some r ∧ t.hist.write = (w + 1) % r.cap
        ∧ t.hist.occupied = s.hist.occupied - 1 ∧ t.hist.oldest = s.hist.oldest + 1
        ∧ t.hist.backlog = s.hist.backlog ∧ t.hist.reserved = s.hist.reserved
        ∧ (s.hist.occupied ≤ 1 → t.hist.append = none))
    ∧ ∀ (s : State) (e : QEntry) (rest : List QEntry) (r : Ring) (w : Nat), s.portFree = true →
      s.pass.queue = e :: rest → e.purpose = .indexWord → s.hist.ring = some r → s.hist.append = some w →
      s.maps.stage = .switching →
      let m := pageMap s.maps.copy
      let index := pageWriteIndex s.maps.copy
      ∃ t, exec .appendEnd s = .next t ∧ exec .injectedWriteReachesMemory s = .next t ∧ exec .commitSwitch s = .next t
        ∧ t.mem = writeWord s.mem (wordBase e.addr) 0xF#4 e.data
        ∧ t.maps = { s.maps with
            map := some m, generation := s.maps.commitGen, first := false, stage := .stamping }
        ∧ t.pass.mapped = true
        ∧ t.hist.occupied = s.hist.occupied - 1 ∧ t.hist.oldest = s.hist.oldest + 1
        ∧ t.hist.backlog = s.hist.backlog ∧ t.hist.reserved = s.hist.reserved
        ∧ t.hist.ring = some ⟨m.ringBase, m.ringCap, pageReadIndex s.maps.copy⟩
        ∧ t.hist.write = (if s.maps.first then (if m.ringCap ≤ index then 0 else index)
            else if m.ringBase = s.cell.ringBase ∧ m.ringCap = s.cell.ringCap then (w + 1) % r.cap else 0)
        ∧ (s.hist.occupied ≤ 1 → t.hist.append = none)

/-- A full-word write of the read-index word while MAPPED passes to memory whatever its value; a value at or above the
capacity, or one that would cover the slot being appended, is not taken and raises RING INDEX INVALID; any other is
the read index. While UNMAPPED the write is plain; a partial one while MAPPED is held back (R117, R147). -/
def Obligations.ReadIndexWriteIsTakenOrNot : Prop :=
  ∀ (s : State) (enables : Enables) (data : Word), s.portFree = true → s.fetchRuns = false →
    (∀ r : Ring, s.pass.mapped = true → enables = 0xF#4 → s.hist.ring = some r →
      ∃ t, exec (.readIndexWrite enables data) s = .next t
        ∧ t = { s with hist := t.hist, att := t.att, pass := t.pass, mem := t.mem }
        ∧ t.wordPassed s (mapAddr 0x010) enables data
        ∧ (r.cap ≤ data.toNat → t.hist = s.hist ∧ t.att = s.att.offer .ringIndexInvalid 0 0x01)
        ∧ (∀ w, data.toNat < r.cap → s.hist.append = some w → data.toNat = (w + 1) % r.cap →
            t.hist = s.hist ∧ t.att = s.att.offer .ringIndexInvalid 0 0x02)
        ∧ (data.toNat < r.cap → (∀ w, s.hist.append = some w → data.toNat ≠ (w + 1) % r.cap) →
            t.hist.ring = some { r with read := data.toNat } ∧ t.hist.write = s.hist.write
              ∧ t.hist.backlog = s.hist.backlog
              ∧ t.hist.occupied = s.hist.occupied ∧ t.hist.counter = s.hist.counter))
    ∧ (s.pass.mapped = false →
      ∃ t, exec (.readIndexWrite enables data) s = .next t ∧ t = { s with pass := t.pass, mem := t.mem }
        ∧ t.wordPassed s (mapAddr 0x010) enables data)
    ∧ (s.pass.mapped = true → enables ≠ 0xF#4 → exec (.readIndexWrite enables data) s = .next { s with
        pass := { s.pass with reply := .wrote }
        att := s.att.offer .partialWrite 0 (BitVec.setWidth 8 enables) })

/-! ## Attention -/

/-- A read of the attention word serves the deliverable entry of an unmasked class with the lowest kind and source,
removes it, and reports and clears the overflow flag; with none it returns valid clear. From the first fetch read to
the end of the last it is held (R138, R148); a fetch read is whole in one step, so that the hold begins with the end
of the first: the model's choice, log 22. -/
def Obligations.AttentionReadServesTheMostUrgent : Prop :=
  ∀ s : State, s.portFree = true → s.att.Legal →
    (s.fetchRuns = false →
      (∀ e : Entry, e ∈ s.att.ready → (∀ x ∈ s.att.ready, e.key ≤ x.key) →
        exec .attentionRead s = .next { s with
          att := { s.att with set := s.att.set.filter (fun x => decide (x ≠ e)), overflow := false }
          pass := { s.pass with reply := .read (wordOf e.detail e.source (byteOf e.kind.code)
            (0x80 ||| (if s.att.overflow then 0x40 else 0) ||| byteOf (8 * e.kind.cls + e.count))) } })
      ∧ (s.att.ready = [] → exec .attentionRead s = .next { s with
          att := { s.att with overflow := false }
          pass := { s.pass with reply := .read (wordOf 0 0 0 (if s.att.overflow then 0x40 else 0)) } }))
    ∧ (s.fetchRuns = true → exec .attentionRead s = .next { s with
        pass := { s.pass with port := .heldFetch ⟨mapAddr 0x004, 0xF#4, none⟩, reply := .none } })

/-- A read of the pending-count word gives the number of entries and of deliverable entries of unmasked classes in its
first two bytes and 0 in the others, in both passage states, and changes neither the set nor the overflow flag; a host
write to the word is suppressed (R139). -/
def Obligations.PendingCountReadCounts : Prop :=
  ∀ s : State, s.portFree = true → s.fetchRuns = false → s.att.Legal →
    (∃ w : Word, exec .pendingCountRead s = .next { s with pass := { s.pass with reply := .read w } }
      ∧ (wordByte w 0).toNat = s.att.set.length ∧ s.att.set.length ≤ 32
      ∧ (wordByte w 1).toNat
          = (s.att.set.filter fun e => !(e.kind == .moduleAttention && e.detail == 0)
              && !s.att.mask.getLsbD (e.kind.code / 0x20)).length
      ∧ wordByte w 2 = 0 ∧ wordByte w 3 = 0)
    ∧ ∀ (enables : Enables) (data : Word),
      exec (.writeToOwnedWindow (mapAddr 0x00C) enables data) s
        = .next { s with pass := { s.pass with reply := .wrote } }

/-- A full-word write of the class mask word while MAPPED passes to memory and its bits 0 to 5 are the mask in effect;
while UNMAPPED it is plain and the mask stays; a partial one while MAPPED is held back (R137, R147). -/
def Obligations.ClassMaskWriteIsTakenWhileMapped : Prop :=
  ∀ (s : State) (enables : Enables) (data : Word), s.portFree = true → s.fetchRuns = false →
    (s.pass.mapped = true → enables = 0xF#4 →
      ∃ t, exec (.classMaskWrite enables data) s = .next t
        ∧ t = { s with att := { s.att with mask := data.extractLsb' 0 6 }, pass := t.pass, mem := t.mem }
        ∧ t.wordPassed s (mapAddr 0x008) enables data ∧ t.queueKept s)
    ∧ (s.pass.mapped = false →
      ∃ t, exec (.classMaskWrite enables data) s = .next t ∧ t = { s with pass := t.pass, mem := t.mem }
        ∧ t.wordPassed s (mapAddr 0x008) enables data ∧ t.queueKept s)
    ∧ (s.pass.mapped = true → enables ≠ 0xF#4 → exec (.classMaskWrite enables data) s = .next { s with
        pass := { s.pass with reply := .wrote }
        att := s.att.offer .partialWrite 0 (BitVec.setWidth 8 enables) })

/-! ## The windows -/

/-- A read of the first word of an IMAGE block is served live and fills the block's latch with the whole block; a read
of a later word is served from the latch when it is full and live when it is empty, and leaves it (R151). -/
def Obligations.ImageReadsUseTheLatch : Prop :=
  ∀ (s : State) (addr : Addr) (o : Nat) (b : ImageBlock), s.portFree = true → s.region addr = .image o →
    (blockAt? o = some (b, 0) → exec (.imageBlockFirstWordRead addr) s = .next { s with
      pass := { s.pass with
        latches := s.pass.latches.set b.latch (some (s.blockWords b))
        reply := .read ((s.blockWords b).getD 0 0) } })
    ∧ ∀ k : Nat, blockAt? o = some (b, k + 1) →
      (∀ words, s.pass.latches[b.latch] = some words → exec (.imageBlockFirstWordRead addr) s = .next { s with
        pass := { s.pass with reply := .read (words.getD (k + 1) 0) } })
      ∧ (s.pass.latches[b.latch] = none → exec (.imageBlockFirstWordRead addr) s = .next { s with
        pass := { s.pass with reply := .read ((s.blockWords b).getD (k + 1) 0) } })

/-- A read in the RECORD window with no queued write to its word passes; with one it is held until the last of those
queued at its taking has reached memory: each entry that reaches memory before the last leaves it held with one fewer to
wait for, and at the last it passes (R153). -/
def Obligations.RecordReadWaitsForQueuedWrites : Prop :=
  (∀ (s : State) (addr : Addr) (o : Nat), s.portFree = true → s.region addr = .record o →
      ((∀ e ∈ s.pass.queue, wordBase e.addr ≠ wordBase addr) → s.pass.queue.length < 48 →
        exec (.recordRead addr) s = .next { s with
          pass := { s.pass with reply := .read (readWord s.mem (wordBase addr)) } })
      ∧ ∀ (before after : List QEntry) (e : QEntry), s.pass.queue = before ++ e :: after →
        wordBase e.addr = wordBase addr → (∀ x ∈ after, wordBase x.addr ≠ wordBase addr) →
        exec (.recordRead addr) s = .next { s with
          pass := { s.pass with port := .heldRecord ⟨addr, 0xF#4, none⟩ (before.length + 1), reply := .none } })
    ∧ (∀ (s : State) (a : Access) (e : QEntry) (rest : List QEntry), s.offers = [] → s.pass.upcoming = [] →
      a.data = none → s.pass.port = .heldRecord a 1 → s.pass.queue = e :: rest → s.queueOffered = true →
      rest.length < 47 → s.pass.waiting = [] → e.purpose = .recordWord →
      ∃ t, exec .injectedWriteReachesMemory s = .next t ∧ t.pass.port = .idle
        ∧ t.mem = writeWord s.mem (wordBase e.addr) 0xF#4 e.data
        ∧ t.pass.reply = .read (readWord t.mem (wordBase a.addr)))
    ∧ ∀ (s : State) (a : Access) (left : Nat) (e : QEntry) (rest : List QEntry),
      s.pass.port = .heldRecord a (left + 2) → s.pass.queue = e :: rest → s.queueOffered = true →
      ∃ t, exec .injectedWriteReachesMemory s = .next t ∧ t.pass.port = .heldRecord a (left + 1)
        ∧ t.mem = writeWord s.mem (wordBase e.addr) 0xF#4 e.data
        ∧ t.pass.upcoming = s.pass.upcoming ∧ t.pass.reply = s.pass.reply

/-- Host writes that no owner takes are suppressed with WRITE TO OWNED WINDOW: IMAGE, RECORD with the page as detail,
the SETPOINT and COMMAND offsets that hold no word. Writes to the words of the map page that the part alone writes or
serves are suppressed with no cause (R146, R149, R150, R152, R153). -/
def Obligations.UnownedWritesAreSuppressed : Prop :=
  ∀ (s : State) (addr : Addr) (enables : Enables) (data : Word) (o : Nat), s.portFree = true →
    (∀ (source page : Byte),
      ((s.region addr = .image o ∧ source = 2 ∧ page = 0)
        ∨ (s.region addr = .record o ∧ source = 4 ∧ page = byteOf (o / 4096))
        ∨ (s.region addr = .setpoint o ∧ source = 1 ∧ page = 0
            ∧ 0xA0 ≤ o ∧ ¬ (0x100 ≤ o ∧ o < 0x114))
        ∨ (s.region addr = .command o ∧ source = 3 ∧ page = 0 ∧ 0x28 ≤ o)) →
      exec (.writeToOwnedWindow addr enables data) s = .next { s with
        pass := { s.pass with reply := .wrote }, att := s.att.offer .writeToOwnedWindow source page })
    ∧ (s.region addr = .mapPage o → s.fetchRuns = false →
        o = 0x000 ∨ o = 0x004 ∨ o = 0x00C ∨ o = 0x014 ∨ o = 0x01C →
        exec (.writeToOwnedWindow addr enables data) s = .next { s with pass := { s.pass with reply := .wrote } })

/-! ## Commits -/

/-- A write to the commit word: partial, held back; while a commit is in flight, COMMAND WHILE BUSY; with generation 0
or the one in effect, refused GENERATION in the word itself; otherwise taken: IN PROGRESS in the word, and the commit
WAITING behind the entries now queued, or FETCHING when there are none (R147, R161, R162). -/
def Obligations.CommitWriteIsDecidedAtItsTaking : Prop :=
  ∀ (s : State) (enables : Enables) (data : Word), s.portFree = true → s.fetchRuns = false →
    (enables ≠ 0xF#4 → exec (.commit enables data) s = .next { s with
      pass := { s.pass with reply := .wrote }
      att := s.att.offer .partialWrite 0 (BitVec.setWidth 8 enables) })
    ∧ (enables = 0xF#4 → s.maps.stage ≠ .idle → exec (.commit enables data) s = .next { s with
      pass := { s.pass with reply := .wrote }, att := s.att.offer .commandWhileBusy 10 0 })
    ∧ (enables = 0xF#4 → s.maps.stage = .idle →
        data.extractLsb' 0 16 = 0 ∨ data.extractLsb' 0 16 = s.maps.generation →
      ∃ t, exec (.commit enables data) s = .next t
        ∧ t = { s with pass := t.pass, mem := t.mem, att := s.att.offer .commitRefused 0 0x01 }
        ∧ t.wordPassed s (mapAddr 0x018) enables (commitWord (data.extractLsb' 0 16) 0x01 0x50) ∧ t.queueKept s)
    ∧ (enables = 0xF#4 → s.maps.stage = .idle → data.extractLsb' 0 16 ≠ 0 →
        data.extractLsb' 0 16 ≠ s.maps.generation →
      ∃ t, exec (.commit enables data) s = .next t ∧ t = { s with pass := t.pass, mem := t.mem, maps := t.maps }
        ∧ t.cycleEnded s (mapAddr 0x018) enables (commitWord (data.extractLsb' 0 16) 0x00 0x01) ∧ t.queueKept s
        ∧ t.pass.boundary = some s.pass.queue.length
        ∧ t.maps = { s.maps with
            stage := if s.pass.queue = [] then .fetching else .waiting
            commitGen := data.extractLsb' 0 16
            copy := [] })

/-- The last entry before the boundary reaches memory and the fetch starts; each fetch read takes the next word of the
map page as memory stands; the last one removes the boundary and the commit is VALIDATING (R156, R162). -/
def Obligations.FetchFollowsTheBoundary : Prop :=
  (∀ (s : State) (e : QEntry) (rest : List QEntry), s.portFree = true → s.maps.stage = .waiting →
      s.pass.boundary = some 1 → s.pass.queue = e :: rest →
      ∃ t, exec .commitFetchStart s = .next t ∧ exec .injectedWriteReachesMemory s = .next t
        ∧ t.mem = writeWord s.mem (wordBase e.addr) 0xF#4 e.data
        ∧ t.maps = { s.maps with stage := .fetching } ∧ t.pass.boundary = some 0)
    ∧ (∀ s : State, s.offers = [] → s.maps.stage = .fetching → s.maps.copy.length + 1 < 1024 →
      exec .fetchRead s = .next { s with
        maps := { s.maps with
          copy := s.maps.copy ++ [readWord s.mem (0xFFF000 + 4 * s.maps.copy.length)] } })
    ∧ ∀ s : State, s.portFree = true → s.maps.stage = .fetching → s.maps.copy.length + 1 = 1024 →
      exec .fetchRead s = .next { s with
        pass := { s.pass with boundary := none }
        maps := { s.maps with
          stage := .validating
          copy := s.maps.copy ++ [readWord s.mem (0xFFF000 + 4 * s.maps.copy.length)] } }

/-- The decision refuses a failing copy: map and generation stay, REFUSED with the reason is queued for the commit
word. It leaves an accepted one SWITCHING while an append is in progress, and with none it switches at once. The switch
puts the fetched map, mask, ring and windows into effect, keeps every setpoint request, raises the panel counter, sets
the write index, queues the write of 0 to its word where one is called for and DONE for the commit word, and offers
COMMIT ACCEPTED. The stamp's arrival in memory ends the commit (R164, R169 to R172, R124, R125, R136, R142). -/
def Obligations.CommitsAreDecidedSwitchedAndStamped : Prop :=
  (∀ (s : State) (reason : CommitReason), s.maps.stage = .validating → s.refusal = some reason →
      ∃ t, exec .validationDecision s = .next t
        ∧ t = { s with
            maps := { s.maps with stage := .stamping, copy := [] }, hist := t.hist, att := t.att, pass := t.pass
            offers := t.offers, choice := t.choice }
        ∧ (s.offers = [] → s.hist.occupied = 0 →
            t.pass = s.pass.place ⟨mapAddr 0x018, commitWord s.maps.commitGen reason.code 0x50, .commitStamp⟩
              ∧ t.att = s.att.offer .commitRefused 0 reason.code))
    ∧ (∀ (s : State) (w : Nat), s.offers = [] → s.maps.stage = .validating → s.refusal = none →
      s.hist.append = some w →
      exec .validationDecision s = .next { s with maps := { s.maps with stage := .switching } })
    ∧ (∀ s : State, s.maps.stage = .validating → s.refusal = none → s.hist.append = none →
      ∃ t, exec .validationDecision s = .next t ∧ exec .commitSwitch s = .next t
        ∧ exec .commitSwitch { s with maps := { s.maps with stage := .switching } } = .next t)
    ∧ (∀ s : State, s.maps.stage = .switching → s.hist.append = none →
      let m := pageMap s.maps.copy
      let index := pageWriteIndex s.maps.copy
      let moved := m.ringBase ≠ s.cell.ringBase ∨ m.ringCap ≠ s.cell.ringCap
      let done : QEntry := ⟨mapAddr 0x018, commitWord s.maps.commitGen 0x00 0x02, .commitStamp⟩
      ∃ t, exec .commitSwitch s = .next t
        ∧ t.maps = { s.maps with
            map := some m, generation := s.maps.commitGen, first := false, stage := .stamping }
        ∧ t.pass.mapped = true ∧ t.pass.latches = s.pass.latches
        ∧ t.att.mask = pageMask s.maps.copy
        ∧ (∀ z : Fin 40, t.zones[z].request = s.zones[z].request ∧ t.zones[z].applied = s.zones[z].applied)
        ∧ (∀ n : Fin 32, t.lines[n].latch = s.lines[n].latch)
        ∧ t.days = s.days ∧ t.seqs = s.seqs ∧ t.weigh.charges = s.weigh.charges ∧ t.mem = s.mem
        ∧ t.hist.counter = max s.hist.counter (max (pageFloor s.maps.copy)
            (min 0xFFFFFFFF (pageLastSerial s.maps.copy + 1)))
        ∧ t.hist.ring = some ⟨m.ringBase, m.ringCap, pageReadIndex s.maps.copy⟩
        ∧ t.hist.write = (if s.maps.first then (if m.ringCap ≤ index then 0 else index)
            else if moved then 0 else s.hist.write)
        ∧ (done ∈ t.pass.queue ∨ ∃ w ∈ t.pass.waiting, done ∈ w.2)
        ∧ (s.link.restart = false → s.hist.occupied = 0 →
            t.pass = { s.pass.placeAll
              ((if (s.maps.first = true ∧ m.ringCap ≤ index) ∨ (s.maps.first = false ∧ moved) then
                  [⟨mapAddr 0x014, 0, .indexZero⟩] else []) ++ [done]) with mapped := true })
        ∧ (s.offers = [] → s.link.queue = [] → s.hist.occupied = 0 →
            t.att = ({ s.att with mask := pageMask s.maps.copy } : Attention).offer .commitAccepted 0
              (s.maps.commitGen.extractLsb' 0 8)))
    ∧ ∀ (s : State) (e : QEntry) (rest : List QEntry), s.portFree = true → s.maps.stage = .stamping →
      s.pass.queue = e :: rest → e.purpose = .commitStamp →
      ∃ t, exec .commitStampReachesMemory s = .next t ∧ exec .injectedWriteReachesMemory s = .next t
        ∧ t.mem = writeWord s.mem (wordBase e.addr) 0xF#4 e.data
        ∧ t.maps = { s.maps with stage := .idle, copy := [] }
end

