-- ==== Sys2Proof/Laws/Memory.lean ====
section
/-! SUPPORT. Memory: every write keeps the canonical form, and what a read gives after a write. -/

namespace Sys2Proof.Machine

theorem wfAbove_weaken {a b : Nat} (h : a ≤ b) : ∀ m, wfAbove b m = true → wfAbove a m = true
  | [], _ => rfl
  | (x, v) :: rest, hm => by
    simp only [wfAbove, Bool.and_eq_true, decide_eq_true_eq] at hm ⊢
    exact ⟨⟨lt_of_le_of_lt h hm.1.1, hm.1.2⟩, hm.2⟩

theorem wfAbove_writeByte (v : Byte) (a : Nat) : ∀ (m : Memory) (lo : Nat), lo < a → wfAbove lo m = true →
    wfAbove lo (writeByte m a v) = true
  | [], lo, hlo, _ => by
    by_cases hv : v = Config.unwritten <;> simp [writeByte, wfAbove, hv, hlo]
  | (x, w) :: rest, lo, hlo, hm => by
    simp only [wfAbove, Bool.and_eq_true, decide_eq_true_eq] at hm
    obtain ⟨⟨hx, hw⟩, hr⟩ := hm
    by_cases hax : a < x
    · by_cases hv : v = Config.unwritten
      · simp [writeByte, wfAbove, hax, hv, hx, hw, hr]
      · simp [writeByte, wfAbove, hax, hv, hlo, hw, hr]
    · by_cases he : a = x
      · subst he
        by_cases hv : v = Config.unwritten
        · simpa [writeByte, hv] using wfAbove_weaken (le_of_lt hx) rest hr
        · simp [writeByte, wfAbove, hv, hx, hr]
      · have hxa : x < a := by omega
        simp only [writeByte, hax, he, if_false, wfAbove, hw, Bool.and_true, Bool.and_eq_true, decide_eq_true_eq]
        exact ⟨hx, wfAbove_writeByte v a rest x hxa hr⟩

/-- A one-byte write keeps the canonical form. -/
theorem writeByte_wf (m : Memory) (a : Nat) (v : Byte) (h : Memory.wf m = true) : Memory.wf (writeByte m a v) = true := by
  cases m with
  | nil => by_cases hv : v = Config.unwritten <;> simp [writeByte, Memory.wf, wfAbove, hv]
  | cons c rest =>
    obtain ⟨x, w⟩ := c
    simp only [Memory.wf, Bool.and_eq_true] at h
    obtain ⟨hw, hr⟩ := h
    by_cases hax : a < x
    · by_cases hv : v = Config.unwritten
      · simp [writeByte, Memory.wf, hax, hv, hw, hr]
      · simp [writeByte, Memory.wf, wfAbove, hax, hv, hw, hr]
    · by_cases he : a = x
      · subst he
        by_cases hv : v = Config.unwritten
        · simp only [writeByte, lt_irrefl, if_false, hv, if_true]
          cases rest with
          | nil => rfl
          | cons d r =>
            obtain ⟨y, u⟩ := d
            simp only [wfAbove, Bool.and_eq_true] at hr
            simp [Memory.wf, hr.1.2, hr.2]
        · simp [writeByte, Memory.wf, hv, hr]
      · have hxa : x < a := by omega
        simp [writeByte, Memory.wf, hax, he, hw, wfAbove_writeByte v a rest x hxa hr]

/-- An enabled or disabled byte of a word keeps the canonical form. -/
theorem writeEnabled_wf (m : Memory) (base : Nat) (en : Enables) (w : Word) (i : Nat) (h : Memory.wf m = true) :
    Memory.wf (writeEnabled m base en w i) = true := by
  unfold writeEnabled
  split
  · exact writeByte_wf m _ _ h
  · exact h

/-- A word write keeps the canonical form. -/
theorem writeWord_wf (m : Memory) (base : Nat) (en : Enables) (w : Word) (h : Memory.wf m = true) :
    Memory.wf (writeWord m base en w) = true := by
  simp only [writeWord, List.foldl_cons, List.foldl_nil]
  exact writeEnabled_wf _ _ _ _ _ (writeEnabled_wf _ _ _ _ _ (writeEnabled_wf _ _ _ _ _ (writeEnabled_wf _ _ _ _ _ h)))

/-- Memory right after reset has the canonical form. -/
theorem reset_wf : Memory.wf State.reset.mem = true := rfl

theorem readByte_below : ∀ (m : Memory) (lo a : Nat), wfAbove lo m = true → a ≤ lo → readByte m a = Config.unwritten
  | [], _, _, _, _ => rfl
  | (x, v) :: rest, lo, a, hm, ha => by
    simp only [wfAbove, Bool.and_eq_true, decide_eq_true_eq] at hm
    have hx : x ≠ a := by omega
    simp only [readByte, hx, if_false]
    exact readByte_below rest x a hm.2 (by omega)

theorem wfAbove_of_wf {x : Nat} {v : Byte} {rest : Memory} (h : Memory.wf ((x, v) :: rest) = true) :
    wfAbove x rest = true := by
  simp only [Memory.wf, Bool.and_eq_true] at h
  exact h.2

theorem wf_of_wfAbove {lo : Nat} {m : Memory} (h : wfAbove lo m = true) : Memory.wf m = true := by
  cases m with
  | nil => rfl
  | cons c rest =>
    obtain ⟨y, u⟩ := c
    simp only [wfAbove, Bool.and_eq_true] at h
    simp [Memory.wf, h.1.2, h.2]

/-- What a read gives after a one-byte write. -/
theorem readByte_writeByte (v : Byte) (a b : Nat) : ∀ (m : Memory), Memory.wf m = true →
    readByte (writeByte m a v) b = if b = a then v else readByte m b
  | [], _ => by
    by_cases hb : b = a
    · by_cases hv : v = Config.unwritten <;> simp [writeByte, readByte, hv, hb]
    · have hab : a ≠ b := fun h => hb h.symm
      by_cases hv : v = Config.unwritten <;> simp [writeByte, readByte, hv, hb, hab]
  | (x, w) :: rest, hm => by
    have hr := wfAbove_of_wf hm
    by_cases hax : a < x
    · by_cases hv : v = Config.unwritten
      · simp only [writeByte, hax, if_true, hv]
        by_cases hb : b = a
        · have : x ≠ b := by omega
          subst hb
          simp only [readByte, this, if_false, if_true]
          exact readByte_below rest x b hr (by omega)
        · simp [hb]
      · simp only [writeByte, hax, if_true, hv, if_false]
        by_cases hb : b = a
        · simp [readByte, hb]
        · have : a ≠ b := fun h => hb h.symm
          simp [readByte, hb, this]
    · by_cases he : a = x
      · subst he
        by_cases hv : v = Config.unwritten
        · simp only [writeByte, lt_irrefl, if_false, hv, if_true]
          by_cases hb : b = a
          · subst hb
            simpa using readByte_below rest b b hr (le_refl b)
          · have : a ≠ b := fun h => hb h.symm
            simp [readByte, hb, this]
        · simp only [writeByte, lt_irrefl, if_false, hv, if_true]
          by_cases hb : b = a
          · simp [readByte, hb]
          · have : a ≠ b := fun h => hb h.symm
            simp [readByte, hb, this]
      · have ih := readByte_writeByte v a b rest (wf_of_wfAbove hr)
        simp only [writeByte, hax, he, if_false, readByte]
        by_cases hx : x = b
        · have : b ≠ a := by omega
          simp [hx, this]
        · simp [hx, ih]

/-- What a read gives after one enabled or disabled byte of a word. -/
theorem readByte_writeEnabled (m : Memory) (base : Nat) (en : Enables) (w : Word) (i b : Nat) (h : Memory.wf m = true) :
    readByte (writeEnabled m base en w i) b
      = if en.getLsbD i = true ∧ b = base + i then wordByte w i else readByte m b := by
  unfold writeEnabled
  split
  · next hi => simp [readByte_writeByte _ _ _ _ h, hi]
  · next hi => simp [hi]

/-- A byte outside the word written reads as before. -/
theorem readByte_writeWord_other (m : Memory) (base : Nat) (en : Enables) (w : Word) (b : Nat) (h : Memory.wf m = true)
    (hb : b < base ∨ base + 4 ≤ b) : readByte (writeWord m base en w) b = readByte m b := by
  have h0 := writeEnabled_wf m base en w 0 h
  have h1 := writeEnabled_wf _ base en w 1 h0
  have h2 := writeEnabled_wf _ base en w 2 h1
  simp only [writeWord, List.foldl_cons, List.foldl_nil]
  rw [readByte_writeEnabled _ _ _ _ _ _ h2, readByte_writeEnabled _ _ _ _ _ _ h1,
    readByte_writeEnabled _ _ _ _ _ _ h0, readByte_writeEnabled _ _ _ _ _ _ h]
  repeat rw [if_neg (by omega)]

/-- An enabled byte of the word written reads as written. -/
theorem readByte_writeWord_enabled (m : Memory) (base : Nat) (en : Enables) (w : Word) (i : Fin 4)
    (h : Memory.wf m = true) (he : en.getLsbD i.val = true) :
    readByte (writeWord m base en w) (base + i.val) = wordByte w i.val := by
  have h0 := writeEnabled_wf m base en w 0 h
  have h1 := writeEnabled_wf _ base en w 1 h0
  have h2 := writeEnabled_wf _ base en w 2 h1
  simp only [writeWord, List.foldl_cons, List.foldl_nil]
  rw [readByte_writeEnabled _ _ _ _ _ _ h2, readByte_writeEnabled _ _ _ _ _ _ h1,
    readByte_writeEnabled _ _ _ _ _ _ h0, readByte_writeEnabled _ _ _ _ _ _ h]
  fin_cases i <;> simp_all

end Sys2Proof.Machine
end

