-- ==== Sys2Proof/Laws/State.lean ====
section
/-! SUPPORT. What each update of the state leaves in each field; true by definition. -/

namespace Sys2Proof.Machine

@[simp] theorem State.setTime_time (s : State) (x : Time) : (s.setTime x).time = x := rfl
@[simp] theorem State.setTime_link (s : State) (x : Time) : (s.setTime x).link = s.link := rfl
@[simp] theorem State.setTime_zones (s : State) (x : Time) : (s.setTime x).zones = s.zones := rfl
@[simp] theorem State.setTime_days (s : State) (x : Time) : (s.setTime x).days = s.days := rfl
@[simp] theorem State.setTime_seqs (s : State) (x : Time) : (s.setTime x).seqs = s.seqs := rfl
@[simp] theorem State.setTime_weigh (s : State) (x : Time) : (s.setTime x).weigh = s.weigh := rfl
@[simp] theorem State.setTime_lines (s : State) (x : Time) : (s.setTime x).lines = s.lines := rfl
@[simp] theorem State.setTime_hist (s : State) (x : Time) : (s.setTime x).hist = s.hist := rfl
@[simp] theorem State.setTime_att (s : State) (x : Time) : (s.setTime x).att = s.att := rfl
@[simp] theorem State.setTime_pass (s : State) (x : Time) : (s.setTime x).pass = s.pass := rfl
@[simp] theorem State.setTime_maps (s : State) (x : Time) : (s.setTime x).maps = s.maps := rfl
@[simp] theorem State.setTime_chans (s : State) (x : Time) : (s.setTime x).chans = s.chans := rfl
@[simp] theorem State.setTime_mem (s : State) (x : Time) : (s.setTime x).mem = s.mem := rfl
@[simp] theorem State.setTime_offers (s : State) (x : Time) : (s.setTime x).offers = s.offers := rfl
@[simp] theorem State.setTime_choice (s : State) (x : Time) : (s.setTime x).choice = s.choice := rfl
@[simp] theorem State.setTime_pending (s : State) (x : Time) : (s.setTime x).pending = s.pending := rfl

@[simp] theorem State.setLink_time (s : State) (x : Link) : (s.setLink x).time = s.time := rfl
@[simp] theorem State.setLink_link (s : State) (x : Link) : (s.setLink x).link = x := rfl
@[simp] theorem State.setLink_zones (s : State) (x : Link) : (s.setLink x).zones = s.zones := rfl
@[simp] theorem State.setLink_days (s : State) (x : Link) : (s.setLink x).days = s.days := rfl
@[simp] theorem State.setLink_seqs (s : State) (x : Link) : (s.setLink x).seqs = s.seqs := rfl
@[simp] theorem State.setLink_weigh (s : State) (x : Link) : (s.setLink x).weigh = s.weigh := rfl
@[simp] theorem State.setLink_lines (s : State) (x : Link) : (s.setLink x).lines = s.lines := rfl
@[simp] theorem State.setLink_hist (s : State) (x : Link) : (s.setLink x).hist = s.hist := rfl
@[simp] theorem State.setLink_att (s : State) (x : Link) : (s.setLink x).att = s.att := rfl
@[simp] theorem State.setLink_pass (s : State) (x : Link) : (s.setLink x).pass = s.pass := rfl
@[simp] theorem State.setLink_maps (s : State) (x : Link) : (s.setLink x).maps = s.maps := rfl
@[simp] theorem State.setLink_chans (s : State) (x : Link) : (s.setLink x).chans = s.chans := rfl
@[simp] theorem State.setLink_mem (s : State) (x : Link) : (s.setLink x).mem = s.mem := rfl
@[simp] theorem State.setLink_offers (s : State) (x : Link) : (s.setLink x).offers = s.offers := rfl
@[simp] theorem State.setLink_choice (s : State) (x : Link) : (s.setLink x).choice = s.choice := rfl
@[simp] theorem State.setLink_pending (s : State) (x : Link) : (s.setLink x).pending = s.pending := rfl

@[simp] theorem State.setZones_time (s : State) (x : Vector Zone 40) : (s.setZones x).time = s.time := rfl
@[simp] theorem State.setZones_link (s : State) (x : Vector Zone 40) : (s.setZones x).link = s.link := rfl
@[simp] theorem State.setZones_zones (s : State) (x : Vector Zone 40) : (s.setZones x).zones = x := rfl
@[simp] theorem State.setZones_days (s : State) (x : Vector Zone 40) : (s.setZones x).days = s.days := rfl
@[simp] theorem State.setZones_seqs (s : State) (x : Vector Zone 40) : (s.setZones x).seqs = s.seqs := rfl
@[simp] theorem State.setZones_weigh (s : State) (x : Vector Zone 40) : (s.setZones x).weigh = s.weigh := rfl
@[simp] theorem State.setZones_lines (s : State) (x : Vector Zone 40) : (s.setZones x).lines = s.lines := rfl
@[simp] theorem State.setZones_hist (s : State) (x : Vector Zone 40) : (s.setZones x).hist = s.hist := rfl
@[simp] theorem State.setZones_att (s : State) (x : Vector Zone 40) : (s.setZones x).att = s.att := rfl
@[simp] theorem State.setZones_pass (s : State) (x : Vector Zone 40) : (s.setZones x).pass = s.pass := rfl
@[simp] theorem State.setZones_maps (s : State) (x : Vector Zone 40) : (s.setZones x).maps = s.maps := rfl
@[simp] theorem State.setZones_chans (s : State) (x : Vector Zone 40) : (s.setZones x).chans = s.chans := rfl
@[simp] theorem State.setZones_mem (s : State) (x : Vector Zone 40) : (s.setZones x).mem = s.mem := rfl
@[simp] theorem State.setZones_offers (s : State) (x : Vector Zone 40) : (s.setZones x).offers = s.offers := rfl
@[simp] theorem State.setZones_choice (s : State) (x : Vector Zone 40) : (s.setZones x).choice = s.choice := rfl
@[simp] theorem State.setZones_pending (s : State) (x : Vector Zone 40) : (s.setZones x).pending = s.pending := rfl

@[simp] theorem State.setDays_time (s : State) (x : Vector Daylight 4) : (s.setDays x).time = s.time := rfl
@[simp] theorem State.setDays_link (s : State) (x : Vector Daylight 4) : (s.setDays x).link = s.link := rfl
@[simp] theorem State.setDays_zones (s : State) (x : Vector Daylight 4) : (s.setDays x).zones = s.zones := rfl
@[simp] theorem State.setDays_days (s : State) (x : Vector Daylight 4) : (s.setDays x).days = x := rfl
@[simp] theorem State.setDays_seqs (s : State) (x : Vector Daylight 4) : (s.setDays x).seqs = s.seqs := rfl
@[simp] theorem State.setDays_weigh (s : State) (x : Vector Daylight 4) : (s.setDays x).weigh = s.weigh := rfl
@[simp] theorem State.setDays_lines (s : State) (x : Vector Daylight 4) : (s.setDays x).lines = s.lines := rfl
@[simp] theorem State.setDays_hist (s : State) (x : Vector Daylight 4) : (s.setDays x).hist = s.hist := rfl
@[simp] theorem State.setDays_att (s : State) (x : Vector Daylight 4) : (s.setDays x).att = s.att := rfl
@[simp] theorem State.setDays_pass (s : State) (x : Vector Daylight 4) : (s.setDays x).pass = s.pass := rfl
@[simp] theorem State.setDays_maps (s : State) (x : Vector Daylight 4) : (s.setDays x).maps = s.maps := rfl
@[simp] theorem State.setDays_chans (s : State) (x : Vector Daylight 4) : (s.setDays x).chans = s.chans := rfl
@[simp] theorem State.setDays_mem (s : State) (x : Vector Daylight 4) : (s.setDays x).mem = s.mem := rfl
@[simp] theorem State.setDays_offers (s : State) (x : Vector Daylight 4) : (s.setDays x).offers = s.offers := rfl
@[simp] theorem State.setDays_choice (s : State) (x : Vector Daylight 4) : (s.setDays x).choice = s.choice := rfl
@[simp] theorem State.setDays_pending (s : State) (x : Vector Daylight 4) : (s.setDays x).pending = s.pending := rfl

@[simp] theorem State.setSeqs_time (s : State) (x : Vector Sequencer 4) : (s.setSeqs x).time = s.time := rfl
@[simp] theorem State.setSeqs_link (s : State) (x : Vector Sequencer 4) : (s.setSeqs x).link = s.link := rfl
@[simp] theorem State.setSeqs_zones (s : State) (x : Vector Sequencer 4) : (s.setSeqs x).zones = s.zones := rfl
@[simp] theorem State.setSeqs_days (s : State) (x : Vector Sequencer 4) : (s.setSeqs x).days = s.days := rfl
@[simp] theorem State.setSeqs_seqs (s : State) (x : Vector Sequencer 4) : (s.setSeqs x).seqs = x := rfl
@[simp] theorem State.setSeqs_weigh (s : State) (x : Vector Sequencer 4) : (s.setSeqs x).weigh = s.weigh := rfl
@[simp] theorem State.setSeqs_lines (s : State) (x : Vector Sequencer 4) : (s.setSeqs x).lines = s.lines := rfl
@[simp] theorem State.setSeqs_hist (s : State) (x : Vector Sequencer 4) : (s.setSeqs x).hist = s.hist := rfl
@[simp] theorem State.setSeqs_att (s : State) (x : Vector Sequencer 4) : (s.setSeqs x).att = s.att := rfl
@[simp] theorem State.setSeqs_pass (s : State) (x : Vector Sequencer 4) : (s.setSeqs x).pass = s.pass := rfl
@[simp] theorem State.setSeqs_maps (s : State) (x : Vector Sequencer 4) : (s.setSeqs x).maps = s.maps := rfl
@[simp] theorem State.setSeqs_chans (s : State) (x : Vector Sequencer 4) : (s.setSeqs x).chans = s.chans := rfl
@[simp] theorem State.setSeqs_mem (s : State) (x : Vector Sequencer 4) : (s.setSeqs x).mem = s.mem := rfl
@[simp] theorem State.setSeqs_offers (s : State) (x : Vector Sequencer 4) : (s.setSeqs x).offers = s.offers := rfl
@[simp] theorem State.setSeqs_choice (s : State) (x : Vector Sequencer 4) : (s.setSeqs x).choice = s.choice := rfl
@[simp] theorem State.setSeqs_pending (s : State) (x : Vector Sequencer 4) : (s.setSeqs x).pending = s.pending := rfl

@[simp] theorem State.setWeigh_time (s : State) (x : Weigh) : (s.setWeigh x).time = s.time := rfl
@[simp] theorem State.setWeigh_link (s : State) (x : Weigh) : (s.setWeigh x).link = s.link := rfl
@[simp] theorem State.setWeigh_zones (s : State) (x : Weigh) : (s.setWeigh x).zones = s.zones := rfl
@[simp] theorem State.setWeigh_days (s : State) (x : Weigh) : (s.setWeigh x).days = s.days := rfl
@[simp] theorem State.setWeigh_seqs (s : State) (x : Weigh) : (s.setWeigh x).seqs = s.seqs := rfl
@[simp] theorem State.setWeigh_weigh (s : State) (x : Weigh) : (s.setWeigh x).weigh = x := rfl
@[simp] theorem State.setWeigh_lines (s : State) (x : Weigh) : (s.setWeigh x).lines = s.lines := rfl
@[simp] theorem State.setWeigh_hist (s : State) (x : Weigh) : (s.setWeigh x).hist = s.hist := rfl
@[simp] theorem State.setWeigh_att (s : State) (x : Weigh) : (s.setWeigh x).att = s.att := rfl
@[simp] theorem State.setWeigh_pass (s : State) (x : Weigh) : (s.setWeigh x).pass = s.pass := rfl
@[simp] theorem State.setWeigh_maps (s : State) (x : Weigh) : (s.setWeigh x).maps = s.maps := rfl
@[simp] theorem State.setWeigh_chans (s : State) (x : Weigh) : (s.setWeigh x).chans = s.chans := rfl
@[simp] theorem State.setWeigh_mem (s : State) (x : Weigh) : (s.setWeigh x).mem = s.mem := rfl
@[simp] theorem State.setWeigh_offers (s : State) (x : Weigh) : (s.setWeigh x).offers = s.offers := rfl
@[simp] theorem State.setWeigh_choice (s : State) (x : Weigh) : (s.setWeigh x).choice = s.choice := rfl
@[simp] theorem State.setWeigh_pending (s : State) (x : Weigh) : (s.setWeigh x).pending = s.pending := rfl

@[simp] theorem State.setLines_time (s : State) (x : Vector Line 32) : (s.setLines x).time = s.time := rfl
@[simp] theorem State.setLines_link (s : State) (x : Vector Line 32) : (s.setLines x).link = s.link := rfl
@[simp] theorem State.setLines_zones (s : State) (x : Vector Line 32) : (s.setLines x).zones = s.zones := rfl
@[simp] theorem State.setLines_days (s : State) (x : Vector Line 32) : (s.setLines x).days = s.days := rfl
@[simp] theorem State.setLines_seqs (s : State) (x : Vector Line 32) : (s.setLines x).seqs = s.seqs := rfl
@[simp] theorem State.setLines_weigh (s : State) (x : Vector Line 32) : (s.setLines x).weigh = s.weigh := rfl
@[simp] theorem State.setLines_lines (s : State) (x : Vector Line 32) : (s.setLines x).lines = x := rfl
@[simp] theorem State.setLines_hist (s : State) (x : Vector Line 32) : (s.setLines x).hist = s.hist := rfl
@[simp] theorem State.setLines_att (s : State) (x : Vector Line 32) : (s.setLines x).att = s.att := rfl
@[simp] theorem State.setLines_pass (s : State) (x : Vector Line 32) : (s.setLines x).pass = s.pass := rfl
@[simp] theorem State.setLines_maps (s : State) (x : Vector Line 32) : (s.setLines x).maps = s.maps := rfl
@[simp] theorem State.setLines_chans (s : State) (x : Vector Line 32) : (s.setLines x).chans = s.chans := rfl
@[simp] theorem State.setLines_mem (s : State) (x : Vector Line 32) : (s.setLines x).mem = s.mem := rfl
@[simp] theorem State.setLines_offers (s : State) (x : Vector Line 32) : (s.setLines x).offers = s.offers := rfl
@[simp] theorem State.setLines_choice (s : State) (x : Vector Line 32) : (s.setLines x).choice = s.choice := rfl
@[simp] theorem State.setLines_pending (s : State) (x : Vector Line 32) : (s.setLines x).pending = s.pending := rfl

@[simp] theorem State.setHist_time (s : State) (x : History) : (s.setHist x).time = s.time := rfl
@[simp] theorem State.setHist_link (s : State) (x : History) : (s.setHist x).link = s.link := rfl
@[simp] theorem State.setHist_zones (s : State) (x : History) : (s.setHist x).zones = s.zones := rfl
@[simp] theorem State.setHist_days (s : State) (x : History) : (s.setHist x).days = s.days := rfl
@[simp] theorem State.setHist_seqs (s : State) (x : History) : (s.setHist x).seqs = s.seqs := rfl
@[simp] theorem State.setHist_weigh (s : State) (x : History) : (s.setHist x).weigh = s.weigh := rfl
@[simp] theorem State.setHist_lines (s : State) (x : History) : (s.setHist x).lines = s.lines := rfl
@[simp] theorem State.setHist_hist (s : State) (x : History) : (s.setHist x).hist = x := rfl
@[simp] theorem State.setHist_att (s : State) (x : History) : (s.setHist x).att = s.att := rfl
@[simp] theorem State.setHist_pass (s : State) (x : History) : (s.setHist x).pass = s.pass := rfl
@[simp] theorem State.setHist_maps (s : State) (x : History) : (s.setHist x).maps = s.maps := rfl
@[simp] theorem State.setHist_chans (s : State) (x : History) : (s.setHist x).chans = s.chans := rfl
@[simp] theorem State.setHist_mem (s : State) (x : History) : (s.setHist x).mem = s.mem := rfl
@[simp] theorem State.setHist_offers (s : State) (x : History) : (s.setHist x).offers = s.offers := rfl
@[simp] theorem State.setHist_choice (s : State) (x : History) : (s.setHist x).choice = s.choice := rfl
@[simp] theorem State.setHist_pending (s : State) (x : History) : (s.setHist x).pending = s.pending := rfl

@[simp] theorem State.setAtt_time (s : State) (x : Attention) : (s.setAtt x).time = s.time := rfl
@[simp] theorem State.setAtt_link (s : State) (x : Attention) : (s.setAtt x).link = s.link := rfl
@[simp] theorem State.setAtt_zones (s : State) (x : Attention) : (s.setAtt x).zones = s.zones := rfl
@[simp] theorem State.setAtt_days (s : State) (x : Attention) : (s.setAtt x).days = s.days := rfl
@[simp] theorem State.setAtt_seqs (s : State) (x : Attention) : (s.setAtt x).seqs = s.seqs := rfl
@[simp] theorem State.setAtt_weigh (s : State) (x : Attention) : (s.setAtt x).weigh = s.weigh := rfl
@[simp] theorem State.setAtt_lines (s : State) (x : Attention) : (s.setAtt x).lines = s.lines := rfl
@[simp] theorem State.setAtt_hist (s : State) (x : Attention) : (s.setAtt x).hist = s.hist := rfl
@[simp] theorem State.setAtt_att (s : State) (x : Attention) : (s.setAtt x).att = x := rfl
@[simp] theorem State.setAtt_pass (s : State) (x : Attention) : (s.setAtt x).pass = s.pass := rfl
@[simp] theorem State.setAtt_maps (s : State) (x : Attention) : (s.setAtt x).maps = s.maps := rfl
@[simp] theorem State.setAtt_chans (s : State) (x : Attention) : (s.setAtt x).chans = s.chans := rfl
@[simp] theorem State.setAtt_mem (s : State) (x : Attention) : (s.setAtt x).mem = s.mem := rfl
@[simp] theorem State.setAtt_offers (s : State) (x : Attention) : (s.setAtt x).offers = s.offers := rfl
@[simp] theorem State.setAtt_choice (s : State) (x : Attention) : (s.setAtt x).choice = s.choice := rfl
@[simp] theorem State.setAtt_pending (s : State) (x : Attention) : (s.setAtt x).pending = s.pending := rfl

@[simp] theorem State.setPass_time (s : State) (x : Passage) : (s.setPass x).time = s.time := rfl
@[simp] theorem State.setPass_link (s : State) (x : Passage) : (s.setPass x).link = s.link := rfl
@[simp] theorem State.setPass_zones (s : State) (x : Passage) : (s.setPass x).zones = s.zones := rfl
@[simp] theorem State.setPass_days (s : State) (x : Passage) : (s.setPass x).days = s.days := rfl
@[simp] theorem State.setPass_seqs (s : State) (x : Passage) : (s.setPass x).seqs = s.seqs := rfl
@[simp] theorem State.setPass_weigh (s : State) (x : Passage) : (s.setPass x).weigh = s.weigh := rfl
@[simp] theorem State.setPass_lines (s : State) (x : Passage) : (s.setPass x).lines = s.lines := rfl
@[simp] theorem State.setPass_hist (s : State) (x : Passage) : (s.setPass x).hist = s.hist := rfl
@[simp] theorem State.setPass_att (s : State) (x : Passage) : (s.setPass x).att = s.att := rfl
@[simp] theorem State.setPass_pass (s : State) (x : Passage) : (s.setPass x).pass = x := rfl
@[simp] theorem State.setPass_maps (s : State) (x : Passage) : (s.setPass x).maps = s.maps := rfl
@[simp] theorem State.setPass_chans (s : State) (x : Passage) : (s.setPass x).chans = s.chans := rfl
@[simp] theorem State.setPass_mem (s : State) (x : Passage) : (s.setPass x).mem = s.mem := rfl
@[simp] theorem State.setPass_offers (s : State) (x : Passage) : (s.setPass x).offers = s.offers := rfl
@[simp] theorem State.setPass_choice (s : State) (x : Passage) : (s.setPass x).choice = s.choice := rfl
@[simp] theorem State.setPass_pending (s : State) (x : Passage) : (s.setPass x).pending = s.pending := rfl

@[simp] theorem State.setMaps_time (s : State) (x : MapUnit) : (s.setMaps x).time = s.time := rfl
@[simp] theorem State.setMaps_link (s : State) (x : MapUnit) : (s.setMaps x).link = s.link := rfl
@[simp] theorem State.setMaps_zones (s : State) (x : MapUnit) : (s.setMaps x).zones = s.zones := rfl
@[simp] theorem State.setMaps_days (s : State) (x : MapUnit) : (s.setMaps x).days = s.days := rfl
@[simp] theorem State.setMaps_seqs (s : State) (x : MapUnit) : (s.setMaps x).seqs = s.seqs := rfl
@[simp] theorem State.setMaps_weigh (s : State) (x : MapUnit) : (s.setMaps x).weigh = s.weigh := rfl
@[simp] theorem State.setMaps_lines (s : State) (x : MapUnit) : (s.setMaps x).lines = s.lines := rfl
@[simp] theorem State.setMaps_hist (s : State) (x : MapUnit) : (s.setMaps x).hist = s.hist := rfl
@[simp] theorem State.setMaps_att (s : State) (x : MapUnit) : (s.setMaps x).att = s.att := rfl
@[simp] theorem State.setMaps_pass (s : State) (x : MapUnit) : (s.setMaps x).pass = s.pass := rfl
@[simp] theorem State.setMaps_maps (s : State) (x : MapUnit) : (s.setMaps x).maps = x := rfl
@[simp] theorem State.setMaps_chans (s : State) (x : MapUnit) : (s.setMaps x).chans = s.chans := rfl
@[simp] theorem State.setMaps_mem (s : State) (x : MapUnit) : (s.setMaps x).mem = s.mem := rfl
@[simp] theorem State.setMaps_offers (s : State) (x : MapUnit) : (s.setMaps x).offers = s.offers := rfl
@[simp] theorem State.setMaps_choice (s : State) (x : MapUnit) : (s.setMaps x).choice = s.choice := rfl
@[simp] theorem State.setMaps_pending (s : State) (x : MapUnit) : (s.setMaps x).pending = s.pending := rfl

@[simp] theorem State.setChans_time (s : State) (x : Vector Channel 10) : (s.setChans x).time = s.time := rfl
@[simp] theorem State.setChans_link (s : State) (x : Vector Channel 10) : (s.setChans x).link = s.link := rfl
@[simp] theorem State.setChans_zones (s : State) (x : Vector Channel 10) : (s.setChans x).zones = s.zones := rfl
@[simp] theorem State.setChans_days (s : State) (x : Vector Channel 10) : (s.setChans x).days = s.days := rfl
@[simp] theorem State.setChans_seqs (s : State) (x : Vector Channel 10) : (s.setChans x).seqs = s.seqs := rfl
@[simp] theorem State.setChans_weigh (s : State) (x : Vector Channel 10) : (s.setChans x).weigh = s.weigh := rfl
@[simp] theorem State.setChans_lines (s : State) (x : Vector Channel 10) : (s.setChans x).lines = s.lines := rfl
@[simp] theorem State.setChans_hist (s : State) (x : Vector Channel 10) : (s.setChans x).hist = s.hist := rfl
@[simp] theorem State.setChans_att (s : State) (x : Vector Channel 10) : (s.setChans x).att = s.att := rfl
@[simp] theorem State.setChans_pass (s : State) (x : Vector Channel 10) : (s.setChans x).pass = s.pass := rfl
@[simp] theorem State.setChans_maps (s : State) (x : Vector Channel 10) : (s.setChans x).maps = s.maps := rfl
@[simp] theorem State.setChans_chans (s : State) (x : Vector Channel 10) : (s.setChans x).chans = x := rfl
@[simp] theorem State.setChans_mem (s : State) (x : Vector Channel 10) : (s.setChans x).mem = s.mem := rfl
@[simp] theorem State.setChans_offers (s : State) (x : Vector Channel 10) : (s.setChans x).offers = s.offers := rfl
@[simp] theorem State.setChans_choice (s : State) (x : Vector Channel 10) : (s.setChans x).choice = s.choice := rfl
@[simp] theorem State.setChans_pending (s : State) (x : Vector Channel 10) : (s.setChans x).pending = s.pending := rfl

@[simp] theorem State.setMem_time (s : State) (x : Memory) : (s.setMem x).time = s.time := rfl
@[simp] theorem State.setMem_link (s : State) (x : Memory) : (s.setMem x).link = s.link := rfl
@[simp] theorem State.setMem_zones (s : State) (x : Memory) : (s.setMem x).zones = s.zones := rfl
@[simp] theorem State.setMem_days (s : State) (x : Memory) : (s.setMem x).days = s.days := rfl
@[simp] theorem State.setMem_seqs (s : State) (x : Memory) : (s.setMem x).seqs = s.seqs := rfl
@[simp] theorem State.setMem_weigh (s : State) (x : Memory) : (s.setMem x).weigh = s.weigh := rfl
@[simp] theorem State.setMem_lines (s : State) (x : Memory) : (s.setMem x).lines = s.lines := rfl
@[simp] theorem State.setMem_hist (s : State) (x : Memory) : (s.setMem x).hist = s.hist := rfl
@[simp] theorem State.setMem_att (s : State) (x : Memory) : (s.setMem x).att = s.att := rfl
@[simp] theorem State.setMem_pass (s : State) (x : Memory) : (s.setMem x).pass = s.pass := rfl
@[simp] theorem State.setMem_maps (s : State) (x : Memory) : (s.setMem x).maps = s.maps := rfl
@[simp] theorem State.setMem_chans (s : State) (x : Memory) : (s.setMem x).chans = s.chans := rfl
@[simp] theorem State.setMem_mem (s : State) (x : Memory) : (s.setMem x).mem = x := rfl
@[simp] theorem State.setMem_offers (s : State) (x : Memory) : (s.setMem x).offers = s.offers := rfl
@[simp] theorem State.setMem_choice (s : State) (x : Memory) : (s.setMem x).choice = s.choice := rfl
@[simp] theorem State.setMem_pending (s : State) (x : Memory) : (s.setMem x).pending = s.pending := rfl

@[simp] theorem State.setOffers_time (s : State) (x : List Report) : (s.setOffers x).time = s.time := rfl
@[simp] theorem State.setOffers_link (s : State) (x : List Report) : (s.setOffers x).link = s.link := rfl
@[simp] theorem State.setOffers_zones (s : State) (x : List Report) : (s.setOffers x).zones = s.zones := rfl
@[simp] theorem State.setOffers_days (s : State) (x : List Report) : (s.setOffers x).days = s.days := rfl
@[simp] theorem State.setOffers_seqs (s : State) (x : List Report) : (s.setOffers x).seqs = s.seqs := rfl
@[simp] theorem State.setOffers_weigh (s : State) (x : List Report) : (s.setOffers x).weigh = s.weigh := rfl
@[simp] theorem State.setOffers_lines (s : State) (x : List Report) : (s.setOffers x).lines = s.lines := rfl
@[simp] theorem State.setOffers_hist (s : State) (x : List Report) : (s.setOffers x).hist = s.hist := rfl
@[simp] theorem State.setOffers_att (s : State) (x : List Report) : (s.setOffers x).att = s.att := rfl
@[simp] theorem State.setOffers_pass (s : State) (x : List Report) : (s.setOffers x).pass = s.pass := rfl
@[simp] theorem State.setOffers_maps (s : State) (x : List Report) : (s.setOffers x).maps = s.maps := rfl
@[simp] theorem State.setOffers_chans (s : State) (x : List Report) : (s.setOffers x).chans = s.chans := rfl
@[simp] theorem State.setOffers_mem (s : State) (x : List Report) : (s.setOffers x).mem = s.mem := rfl
@[simp] theorem State.setOffers_offers (s : State) (x : List Report) : (s.setOffers x).offers = x := rfl
@[simp] theorem State.setOffers_choice (s : State) (x : List Report) : (s.setOffers x).choice = s.choice := rfl
@[simp] theorem State.setOffers_pending (s : State) (x : List Report) : (s.setOffers x).pending = s.pending := rfl

@[simp] theorem State.setChoice_time (s : State) (x : Nat) : (s.setChoice x).time = s.time := rfl
@[simp] theorem State.setChoice_link (s : State) (x : Nat) : (s.setChoice x).link = s.link := rfl
@[simp] theorem State.setChoice_zones (s : State) (x : Nat) : (s.setChoice x).zones = s.zones := rfl
@[simp] theorem State.setChoice_days (s : State) (x : Nat) : (s.setChoice x).days = s.days := rfl
@[simp] theorem State.setChoice_seqs (s : State) (x : Nat) : (s.setChoice x).seqs = s.seqs := rfl
@[simp] theorem State.setChoice_weigh (s : State) (x : Nat) : (s.setChoice x).weigh = s.weigh := rfl
@[simp] theorem State.setChoice_lines (s : State) (x : Nat) : (s.setChoice x).lines = s.lines := rfl
@[simp] theorem State.setChoice_hist (s : State) (x : Nat) : (s.setChoice x).hist = s.hist := rfl
@[simp] theorem State.setChoice_att (s : State) (x : Nat) : (s.setChoice x).att = s.att := rfl
@[simp] theorem State.setChoice_pass (s : State) (x : Nat) : (s.setChoice x).pass = s.pass := rfl
@[simp] theorem State.setChoice_maps (s : State) (x : Nat) : (s.setChoice x).maps = s.maps := rfl
@[simp] theorem State.setChoice_chans (s : State) (x : Nat) : (s.setChoice x).chans = s.chans := rfl
@[simp] theorem State.setChoice_mem (s : State) (x : Nat) : (s.setChoice x).mem = s.mem := rfl
@[simp] theorem State.setChoice_offers (s : State) (x : Nat) : (s.setChoice x).offers = s.offers := rfl
@[simp] theorem State.setChoice_choice (s : State) (x : Nat) : (s.setChoice x).choice = x := rfl
@[simp] theorem State.setChoice_pending (s : State) (x : Nat) : (s.setChoice x).pending = s.pending := rfl

@[simp] theorem State.setPending_time (s : State) (x : List Instr) : (s.setPending x).time = s.time := rfl
@[simp] theorem State.setPending_link (s : State) (x : List Instr) : (s.setPending x).link = s.link := rfl
@[simp] theorem State.setPending_zones (s : State) (x : List Instr) : (s.setPending x).zones = s.zones := rfl
@[simp] theorem State.setPending_days (s : State) (x : List Instr) : (s.setPending x).days = s.days := rfl
@[simp] theorem State.setPending_seqs (s : State) (x : List Instr) : (s.setPending x).seqs = s.seqs := rfl
@[simp] theorem State.setPending_weigh (s : State) (x : List Instr) : (s.setPending x).weigh = s.weigh := rfl
@[simp] theorem State.setPending_lines (s : State) (x : List Instr) : (s.setPending x).lines = s.lines := rfl
@[simp] theorem State.setPending_hist (s : State) (x : List Instr) : (s.setPending x).hist = s.hist := rfl
@[simp] theorem State.setPending_att (s : State) (x : List Instr) : (s.setPending x).att = s.att := rfl
@[simp] theorem State.setPending_pass (s : State) (x : List Instr) : (s.setPending x).pass = s.pass := rfl
@[simp] theorem State.setPending_maps (s : State) (x : List Instr) : (s.setPending x).maps = s.maps := rfl
@[simp] theorem State.setPending_chans (s : State) (x : List Instr) : (s.setPending x).chans = s.chans := rfl
@[simp] theorem State.setPending_mem (s : State) (x : List Instr) : (s.setPending x).mem = s.mem := rfl
@[simp] theorem State.setPending_offers (s : State) (x : List Instr) : (s.setPending x).offers = s.offers := rfl
@[simp] theorem State.setPending_choice (s : State) (x : List Instr) : (s.setPending x).choice = s.choice := rfl
@[simp] theorem State.setPending_pending (s : State) (x : List Instr) : (s.setPending x).pending = x := rfl

@[simp] theorem State.setDay_time (s : State) (d : Fin 4) (x : Daylight) : (s.setDay d x).time = s.time := rfl
@[simp] theorem State.setDay_link (s : State) (d : Fin 4) (x : Daylight) : (s.setDay d x).link = s.link := rfl
@[simp] theorem State.setDay_zones (s : State) (d : Fin 4) (x : Daylight) : (s.setDay d x).zones = s.zones := rfl
@[simp] theorem State.setDay_days (s : State) (d : Fin 4) (x : Daylight) : (s.setDay d x).days = s.days.set d x := rfl
@[simp] theorem State.setDay_seqs (s : State) (d : Fin 4) (x : Daylight) : (s.setDay d x).seqs = s.seqs := rfl
@[simp] theorem State.setDay_weigh (s : State) (d : Fin 4) (x : Daylight) : (s.setDay d x).weigh = s.weigh := rfl
@[simp] theorem State.setDay_lines (s : State) (d : Fin 4) (x : Daylight) : (s.setDay d x).lines = s.lines := rfl
@[simp] theorem State.setDay_hist (s : State) (d : Fin 4) (x : Daylight) : (s.setDay d x).hist = s.hist := rfl
@[simp] theorem State.setDay_att (s : State) (d : Fin 4) (x : Daylight) : (s.setDay d x).att = s.att := rfl
@[simp] theorem State.setDay_pass (s : State) (d : Fin 4) (x : Daylight) : (s.setDay d x).pass = s.pass := rfl
@[simp] theorem State.setDay_maps (s : State) (d : Fin 4) (x : Daylight) : (s.setDay d x).maps = s.maps := rfl
@[simp] theorem State.setDay_chans (s : State) (d : Fin 4) (x : Daylight) : (s.setDay d x).chans = s.chans := rfl
@[simp] theorem State.setDay_mem (s : State) (d : Fin 4) (x : Daylight) : (s.setDay d x).mem = s.mem := rfl
@[simp] theorem State.setDay_offers (s : State) (d : Fin 4) (x : Daylight) : (s.setDay d x).offers = s.offers := rfl
@[simp] theorem State.setDay_choice (s : State) (d : Fin 4) (x : Daylight) : (s.setDay d x).choice = s.choice := rfl
@[simp] theorem State.setDay_pending (s : State) (d : Fin 4) (x : Daylight) :
    (s.setDay d x).pending = s.pending := rfl

@[simp] theorem State.setSeq_time (s : State) (d : Fin 4) (x : Sequencer) : (s.setSeq d x).time = s.time := rfl
@[simp] theorem State.setSeq_link (s : State) (d : Fin 4) (x : Sequencer) : (s.setSeq d x).link = s.link := rfl
@[simp] theorem State.setSeq_zones (s : State) (d : Fin 4) (x : Sequencer) : (s.setSeq d x).zones = s.zones := rfl
@[simp] theorem State.setSeq_days (s : State) (d : Fin 4) (x : Sequencer) : (s.setSeq d x).days = s.days := rfl
@[simp] theorem State.setSeq_seqs (s : State) (d : Fin 4) (x : Sequencer) :
    (s.setSeq d x).seqs = s.seqs.set d x := rfl
@[simp] theorem State.setSeq_weigh (s : State) (d : Fin 4) (x : Sequencer) : (s.setSeq d x).weigh = s.weigh := rfl
@[simp] theorem State.setSeq_lines (s : State) (d : Fin 4) (x : Sequencer) : (s.setSeq d x).lines = s.lines := rfl
@[simp] theorem State.setSeq_hist (s : State) (d : Fin 4) (x : Sequencer) : (s.setSeq d x).hist = s.hist := rfl
@[simp] theorem State.setSeq_att (s : State) (d : Fin 4) (x : Sequencer) : (s.setSeq d x).att = s.att := rfl
@[simp] theorem State.setSeq_pass (s : State) (d : Fin 4) (x : Sequencer) : (s.setSeq d x).pass = s.pass := rfl
@[simp] theorem State.setSeq_maps (s : State) (d : Fin 4) (x : Sequencer) : (s.setSeq d x).maps = s.maps := rfl
@[simp] theorem State.setSeq_chans (s : State) (d : Fin 4) (x : Sequencer) : (s.setSeq d x).chans = s.chans := rfl
@[simp] theorem State.setSeq_mem (s : State) (d : Fin 4) (x : Sequencer) : (s.setSeq d x).mem = s.mem := rfl
@[simp] theorem State.setSeq_offers (s : State) (d : Fin 4) (x : Sequencer) : (s.setSeq d x).offers = s.offers := rfl
@[simp] theorem State.setSeq_choice (s : State) (d : Fin 4) (x : Sequencer) : (s.setSeq d x).choice = s.choice := rfl
@[simp] theorem State.setSeq_pending (s : State) (d : Fin 4) (x : Sequencer) :
    (s.setSeq d x).pending = s.pending := rfl

@[simp] theorem State.setLine_time (s : State) (n : Fin 32) (x : Line) : (s.setLine n x).time = s.time := rfl
@[simp] theorem State.setLine_link (s : State) (n : Fin 32) (x : Line) : (s.setLine n x).link = s.link := rfl
@[simp] theorem State.setLine_zones (s : State) (n : Fin 32) (x : Line) : (s.setLine n x).zones = s.zones := rfl
@[simp] theorem State.setLine_days (s : State) (n : Fin 32) (x : Line) : (s.setLine n x).days = s.days := rfl
@[simp] theorem State.setLine_seqs (s : State) (n : Fin 32) (x : Line) : (s.setLine n x).seqs = s.seqs := rfl
@[simp] theorem State.setLine_weigh (s : State) (n : Fin 32) (x : Line) : (s.setLine n x).weigh = s.weigh := rfl
@[simp] theorem State.setLine_lines (s : State) (n : Fin 32) (x : Line) :
    (s.setLine n x).lines = s.lines.set n x := rfl
@[simp] theorem State.setLine_hist (s : State) (n : Fin 32) (x : Line) : (s.setLine n x).hist = s.hist := rfl
@[simp] theorem State.setLine_att (s : State) (n : Fin 32) (x : Line) : (s.setLine n x).att = s.att := rfl
@[simp] theorem State.setLine_pass (s : State) (n : Fin 32) (x : Line) : (s.setLine n x).pass = s.pass := rfl
@[simp] theorem State.setLine_maps (s : State) (n : Fin 32) (x : Line) : (s.setLine n x).maps = s.maps := rfl
@[simp] theorem State.setLine_chans (s : State) (n : Fin 32) (x : Line) : (s.setLine n x).chans = s.chans := rfl
@[simp] theorem State.setLine_mem (s : State) (n : Fin 32) (x : Line) : (s.setLine n x).mem = s.mem := rfl
@[simp] theorem State.setLine_offers (s : State) (n : Fin 32) (x : Line) : (s.setLine n x).offers = s.offers := rfl
@[simp] theorem State.setLine_choice (s : State) (n : Fin 32) (x : Line) : (s.setLine n x).choice = s.choice := rfl
@[simp] theorem State.setLine_pending (s : State) (n : Fin 32) (x : Line) : (s.setLine n x).pending = s.pending := rfl

@[simp] theorem State.setZone_time (s : State) (z : Fin 40) (x : Zone) : (s.setZone z x).time = s.time := rfl
@[simp] theorem State.setZone_link (s : State) (z : Fin 40) (x : Zone) : (s.setZone z x).link = s.link := rfl
@[simp] theorem State.setZone_zones (s : State) (z : Fin 40) (x : Zone) :
    (s.setZone z x).zones = s.zones.set z x := rfl
@[simp] theorem State.setZone_days (s : State) (z : Fin 40) (x : Zone) : (s.setZone z x).days = s.days := rfl
@[simp] theorem State.setZone_seqs (s : State) (z : Fin 40) (x : Zone) : (s.setZone z x).seqs = s.seqs := rfl
@[simp] theorem State.setZone_weigh (s : State) (z : Fin 40) (x : Zone) : (s.setZone z x).weigh = s.weigh := rfl
@[simp] theorem State.setZone_lines (s : State) (z : Fin 40) (x : Zone) : (s.setZone z x).lines = s.lines := rfl
@[simp] theorem State.setZone_hist (s : State) (z : Fin 40) (x : Zone) : (s.setZone z x).hist = s.hist := rfl
@[simp] theorem State.setZone_att (s : State) (z : Fin 40) (x : Zone) : (s.setZone z x).att = s.att := rfl
@[simp] theorem State.setZone_pass (s : State) (z : Fin 40) (x : Zone) : (s.setZone z x).pass = s.pass := rfl
@[simp] theorem State.setZone_maps (s : State) (z : Fin 40) (x : Zone) : (s.setZone z x).maps = s.maps := rfl
@[simp] theorem State.setZone_chans (s : State) (z : Fin 40) (x : Zone) : (s.setZone z x).chans = s.chans := rfl
@[simp] theorem State.setZone_mem (s : State) (z : Fin 40) (x : Zone) : (s.setZone z x).mem = s.mem := rfl
@[simp] theorem State.setZone_offers (s : State) (z : Fin 40) (x : Zone) : (s.setZone z x).offers = s.offers := rfl
@[simp] theorem State.setZone_choice (s : State) (z : Fin 40) (x : Zone) : (s.setZone z x).choice = s.choice := rfl
@[simp] theorem State.setZone_pending (s : State) (z : Fin 40) (x : Zone) : (s.setZone z x).pending = s.pending := rfl

@[simp] theorem State.setChan_time (s : State) (c : Fin 10) (x : Channel) : (s.setChan c x).time = s.time := rfl
@[simp] theorem State.setChan_link (s : State) (c : Fin 10) (x : Channel) : (s.setChan c x).link = s.link := rfl
@[simp] theorem State.setChan_zones (s : State) (c : Fin 10) (x : Channel) : (s.setChan c x).zones = s.zones := rfl
@[simp] theorem State.setChan_days (s : State) (c : Fin 10) (x : Channel) : (s.setChan c x).days = s.days := rfl
@[simp] theorem State.setChan_seqs (s : State) (c : Fin 10) (x : Channel) : (s.setChan c x).seqs = s.seqs := rfl
@[simp] theorem State.setChan_weigh (s : State) (c : Fin 10) (x : Channel) : (s.setChan c x).weigh = s.weigh := rfl
@[simp] theorem State.setChan_lines (s : State) (c : Fin 10) (x : Channel) : (s.setChan c x).lines = s.lines := rfl
@[simp] theorem State.setChan_hist (s : State) (c : Fin 10) (x : Channel) : (s.setChan c x).hist = s.hist := rfl
@[simp] theorem State.setChan_att (s : State) (c : Fin 10) (x : Channel) : (s.setChan c x).att = s.att := rfl
@[simp] theorem State.setChan_pass (s : State) (c : Fin 10) (x : Channel) : (s.setChan c x).pass = s.pass := rfl
@[simp] theorem State.setChan_maps (s : State) (c : Fin 10) (x : Channel) : (s.setChan c x).maps = s.maps := rfl
@[simp] theorem State.setChan_chans (s : State) (c : Fin 10) (x : Channel) :
    (s.setChan c x).chans = s.chans.set c x := rfl
@[simp] theorem State.setChan_mem (s : State) (c : Fin 10) (x : Channel) : (s.setChan c x).mem = s.mem := rfl
@[simp] theorem State.setChan_offers (s : State) (c : Fin 10) (x : Channel) : (s.setChan c x).offers = s.offers := rfl
@[simp] theorem State.setChan_choice (s : State) (c : Fin 10) (x : Channel) : (s.setChan c x).choice = s.choice := rfl
@[simp] theorem State.setChan_pending (s : State) (c : Fin 10) (x : Channel) :
    (s.setChan c x).pending = s.pending := rfl

@[simp] theorem State.setHead_time (s : State) (h : Fin 4) (x : Head) : (s.setHead h x).time = s.time := rfl
@[simp] theorem State.setHead_link (s : State) (h : Fin 4) (x : Head) : (s.setHead h x).link = s.link := rfl
@[simp] theorem State.setHead_zones (s : State) (h : Fin 4) (x : Head) : (s.setHead h x).zones = s.zones := rfl
@[simp] theorem State.setHead_days (s : State) (h : Fin 4) (x : Head) : (s.setHead h x).days = s.days := rfl
@[simp] theorem State.setHead_seqs (s : State) (h : Fin 4) (x : Head) : (s.setHead h x).seqs = s.seqs := rfl
@[simp] theorem State.setHead_weigh (s : State) (h : Fin 4) (x : Head) :
    (s.setHead h x).weigh = { s.weigh with heads := s.weigh.heads.set h x } := rfl
@[simp] theorem State.setHead_lines (s : State) (h : Fin 4) (x : Head) : (s.setHead h x).lines = s.lines := rfl
@[simp] theorem State.setHead_hist (s : State) (h : Fin 4) (x : Head) : (s.setHead h x).hist = s.hist := rfl
@[simp] theorem State.setHead_att (s : State) (h : Fin 4) (x : Head) : (s.setHead h x).att = s.att := rfl
@[simp] theorem State.setHead_pass (s : State) (h : Fin 4) (x : Head) : (s.setHead h x).pass = s.pass := rfl
@[simp] theorem State.setHead_maps (s : State) (h : Fin 4) (x : Head) : (s.setHead h x).maps = s.maps := rfl
@[simp] theorem State.setHead_chans (s : State) (h : Fin 4) (x : Head) : (s.setHead h x).chans = s.chans := rfl
@[simp] theorem State.setHead_mem (s : State) (h : Fin 4) (x : Head) : (s.setHead h x).mem = s.mem := rfl
@[simp] theorem State.setHead_offers (s : State) (h : Fin 4) (x : Head) : (s.setHead h x).offers = s.offers := rfl
@[simp] theorem State.setHead_choice (s : State) (h : Fin 4) (x : Head) : (s.setHead h x).choice = s.choice := rfl
@[simp] theorem State.setHead_pending (s : State) (h : Fin 4) (x : Head) : (s.setHead h x).pending = s.pending := rfl

@[simp] theorem State.setCharge_time (s : State) (i : Fin 6) (x : ChargeSlot) : (s.setCharge i x).time = s.time := rfl
@[simp] theorem State.setCharge_link (s : State) (i : Fin 6) (x : ChargeSlot) : (s.setCharge i x).link = s.link := rfl
@[simp] theorem State.setCharge_zones (s : State) (i : Fin 6) (x : ChargeSlot) :
    (s.setCharge i x).zones = s.zones := rfl
@[simp] theorem State.setCharge_days (s : State) (i : Fin 6) (x : ChargeSlot) : (s.setCharge i x).days = s.days := rfl
@[simp] theorem State.setCharge_seqs (s : State) (i : Fin 6) (x : ChargeSlot) : (s.setCharge i x).seqs = s.seqs := rfl
@[simp] theorem State.setCharge_weigh (s : State) (i : Fin 6) (x : ChargeSlot) :
    (s.setCharge i x).weigh = { s.weigh with charges := s.weigh.charges.set i x } := rfl
@[simp] theorem State.setCharge_lines (s : State) (i : Fin 6) (x : ChargeSlot) :
    (s.setCharge i x).lines = s.lines := rfl
@[simp] theorem State.setCharge_hist (s : State) (i : Fin 6) (x : ChargeSlot) : (s.setCharge i x).hist = s.hist := rfl
@[simp] theorem State.setCharge_att (s : State) (i : Fin 6) (x : ChargeSlot) : (s.setCharge i x).att = s.att := rfl
@[simp] theorem State.setCharge_pass (s : State) (i : Fin 6) (x : ChargeSlot) : (s.setCharge i x).pass = s.pass := rfl
@[simp] theorem State.setCharge_maps (s : State) (i : Fin 6) (x : ChargeSlot) : (s.setCharge i x).maps = s.maps := rfl
@[simp] theorem State.setCharge_chans (s : State) (i : Fin 6) (x : ChargeSlot) :
    (s.setCharge i x).chans = s.chans := rfl
@[simp] theorem State.setCharge_mem (s : State) (i : Fin 6) (x : ChargeSlot) : (s.setCharge i x).mem = s.mem := rfl
@[simp] theorem State.setCharge_offers (s : State) (i : Fin 6) (x : ChargeSlot) :
    (s.setCharge i x).offers = s.offers := rfl
@[simp] theorem State.setCharge_choice (s : State) (i : Fin 6) (x : ChargeSlot) :
    (s.setCharge i x).choice = s.choice := rfl
@[simp] theorem State.setCharge_pending (s : State) (i : Fin 6) (x : ChargeSlot) :
    (s.setCharge i x).pending = s.pending := rfl

@[simp] theorem State.inject_time (s : State) (e : QEntry) : (s.inject e).time = s.time := rfl
@[simp] theorem State.inject_link (s : State) (e : QEntry) : (s.inject e).link = s.link := rfl
@[simp] theorem State.inject_zones (s : State) (e : QEntry) : (s.inject e).zones = s.zones := rfl
@[simp] theorem State.inject_days (s : State) (e : QEntry) : (s.inject e).days = s.days := rfl
@[simp] theorem State.inject_seqs (s : State) (e : QEntry) : (s.inject e).seqs = s.seqs := rfl
@[simp] theorem State.inject_weigh (s : State) (e : QEntry) : (s.inject e).weigh = s.weigh := rfl
@[simp] theorem State.inject_lines (s : State) (e : QEntry) : (s.inject e).lines = s.lines := rfl
@[simp] theorem State.inject_hist (s : State) (e : QEntry) : (s.inject e).hist = s.hist := rfl
@[simp] theorem State.inject_att (s : State) (e : QEntry) : (s.inject e).att = s.att := rfl
@[simp] theorem State.inject_pass (s : State) (e : QEntry) : (s.inject e).pass = s.pass.place e := rfl
@[simp] theorem State.inject_maps (s : State) (e : QEntry) : (s.inject e).maps = s.maps := rfl
@[simp] theorem State.inject_chans (s : State) (e : QEntry) : (s.inject e).chans = s.chans := rfl
@[simp] theorem State.inject_mem (s : State) (e : QEntry) : (s.inject e).mem = s.mem := rfl
@[simp] theorem State.inject_offers (s : State) (e : QEntry) : (s.inject e).offers = s.offers := rfl
@[simp] theorem State.inject_choice (s : State) (e : QEntry) : (s.inject e).choice = s.choice := rfl
@[simp] theorem State.inject_pending (s : State) (e : QEntry) : (s.inject e).pending = s.pending := rfl

@[simp] theorem State.injectAll_time (s : State) (es : List QEntry) : (s.injectAll es).time = s.time := rfl
@[simp] theorem State.injectAll_link (s : State) (es : List QEntry) : (s.injectAll es).link = s.link := rfl
@[simp] theorem State.injectAll_zones (s : State) (es : List QEntry) : (s.injectAll es).zones = s.zones := rfl
@[simp] theorem State.injectAll_days (s : State) (es : List QEntry) : (s.injectAll es).days = s.days := rfl
@[simp] theorem State.injectAll_seqs (s : State) (es : List QEntry) : (s.injectAll es).seqs = s.seqs := rfl
@[simp] theorem State.injectAll_weigh (s : State) (es : List QEntry) : (s.injectAll es).weigh = s.weigh := rfl
@[simp] theorem State.injectAll_lines (s : State) (es : List QEntry) : (s.injectAll es).lines = s.lines := rfl
@[simp] theorem State.injectAll_hist (s : State) (es : List QEntry) : (s.injectAll es).hist = s.hist := rfl
@[simp] theorem State.injectAll_att (s : State) (es : List QEntry) : (s.injectAll es).att = s.att := rfl
@[simp] theorem State.injectAll_pass (s : State) (es : List QEntry) :
    (s.injectAll es).pass = s.pass.placeAll es := rfl
@[simp] theorem State.injectAll_maps (s : State) (es : List QEntry) : (s.injectAll es).maps = s.maps := rfl
@[simp] theorem State.injectAll_chans (s : State) (es : List QEntry) : (s.injectAll es).chans = s.chans := rfl
@[simp] theorem State.injectAll_mem (s : State) (es : List QEntry) : (s.injectAll es).mem = s.mem := rfl
@[simp] theorem State.injectAll_offers (s : State) (es : List QEntry) : (s.injectAll es).offers = s.offers := rfl
@[simp] theorem State.injectAll_choice (s : State) (es : List QEntry) : (s.injectAll es).choice = s.choice := rfl
@[simp] theorem State.injectAll_pending (s : State) (es : List QEntry) : (s.injectAll es).pending = s.pending := rfl

@[simp] theorem State.raise_time (s : State) (k : CauseKind) (source detail : Byte) :
    (s.raise k source detail).time = s.time := rfl
@[simp] theorem State.raise_link (s : State) (k : CauseKind) (source detail : Byte) :
    (s.raise k source detail).link = s.link := rfl
@[simp] theorem State.raise_zones (s : State) (k : CauseKind) (source detail : Byte) :
    (s.raise k source detail).zones = s.zones := rfl
@[simp] theorem State.raise_days (s : State) (k : CauseKind) (source detail : Byte) :
    (s.raise k source detail).days = s.days := rfl
@[simp] theorem State.raise_seqs (s : State) (k : CauseKind) (source detail : Byte) :
    (s.raise k source detail).seqs = s.seqs := rfl
@[simp] theorem State.raise_weigh (s : State) (k : CauseKind) (source detail : Byte) :
    (s.raise k source detail).weigh = s.weigh := rfl
@[simp] theorem State.raise_lines (s : State) (k : CauseKind) (source detail : Byte) :
    (s.raise k source detail).lines = s.lines := rfl
@[simp] theorem State.raise_hist (s : State) (k : CauseKind) (source detail : Byte) :
    (s.raise k source detail).hist = s.hist := rfl
@[simp] theorem State.raise_att (s : State) (k : CauseKind) (source detail : Byte) :
    (s.raise k source detail).att = s.att := rfl
@[simp] theorem State.raise_pass (s : State) (k : CauseKind) (source detail : Byte) :
    (s.raise k source detail).pass = s.pass := rfl
@[simp] theorem State.raise_maps (s : State) (k : CauseKind) (source detail : Byte) :
    (s.raise k source detail).maps = s.maps := rfl
@[simp] theorem State.raise_chans (s : State) (k : CauseKind) (source detail : Byte) :
    (s.raise k source detail).chans = s.chans := rfl
@[simp] theorem State.raise_mem (s : State) (k : CauseKind) (source detail : Byte) :
    (s.raise k source detail).mem = s.mem := rfl
@[simp] theorem State.raise_offers (s : State) (k : CauseKind) (source detail : Byte) :
    (s.raise k source detail).offers = s.offers ++ [.cause k source detail] := rfl
@[simp] theorem State.raise_choice (s : State) (k : CauseKind) (source detail : Byte) :
    (s.raise k source detail).choice = s.choice := rfl
@[simp] theorem State.raise_pending (s : State) (k : CauseKind) (source detail : Byte) :
    (s.raise k source detail).pending = s.pending := rfl

@[simp] theorem State.report_time (s : State) (rs : List Report) : (s.report rs).time = s.time := rfl
@[simp] theorem State.report_link (s : State) (rs : List Report) : (s.report rs).link = s.link := rfl
@[simp] theorem State.report_zones (s : State) (rs : List Report) : (s.report rs).zones = s.zones := rfl
@[simp] theorem State.report_days (s : State) (rs : List Report) : (s.report rs).days = s.days := rfl
@[simp] theorem State.report_seqs (s : State) (rs : List Report) : (s.report rs).seqs = s.seqs := rfl
@[simp] theorem State.report_weigh (s : State) (rs : List Report) : (s.report rs).weigh = s.weigh := rfl
@[simp] theorem State.report_lines (s : State) (rs : List Report) : (s.report rs).lines = s.lines := rfl
@[simp] theorem State.report_hist (s : State) (rs : List Report) : (s.report rs).hist = s.hist := rfl
@[simp] theorem State.report_att (s : State) (rs : List Report) : (s.report rs).att = s.att := rfl
@[simp] theorem State.report_pass (s : State) (rs : List Report) : (s.report rs).pass = s.pass := rfl
@[simp] theorem State.report_maps (s : State) (rs : List Report) : (s.report rs).maps = s.maps := rfl
@[simp] theorem State.report_chans (s : State) (rs : List Report) : (s.report rs).chans = s.chans := rfl
@[simp] theorem State.report_mem (s : State) (rs : List Report) : (s.report rs).mem = s.mem := rfl
@[simp] theorem State.report_offers (s : State) (rs : List Report) : (s.report rs).offers = s.offers ++ rs := rfl
@[simp] theorem State.report_choice (s : State) (rs : List Report) : (s.report rs).choice = s.choice := rfl
@[simp] theorem State.report_pending (s : State) (rs : List Report) : (s.report rs).pending = s.pending := rfl

@[simp] theorem State.setPort_time (s : State) (p : Port) (r : Reply) : (s.setPort p r).time = s.time := rfl
@[simp] theorem State.setPort_link (s : State) (p : Port) (r : Reply) : (s.setPort p r).link = s.link := rfl
@[simp] theorem State.setPort_zones (s : State) (p : Port) (r : Reply) : (s.setPort p r).zones = s.zones := rfl
@[simp] theorem State.setPort_days (s : State) (p : Port) (r : Reply) : (s.setPort p r).days = s.days := rfl
@[simp] theorem State.setPort_seqs (s : State) (p : Port) (r : Reply) : (s.setPort p r).seqs = s.seqs := rfl
@[simp] theorem State.setPort_weigh (s : State) (p : Port) (r : Reply) : (s.setPort p r).weigh = s.weigh := rfl
@[simp] theorem State.setPort_lines (s : State) (p : Port) (r : Reply) : (s.setPort p r).lines = s.lines := rfl
@[simp] theorem State.setPort_hist (s : State) (p : Port) (r : Reply) : (s.setPort p r).hist = s.hist := rfl
@[simp] theorem State.setPort_att (s : State) (p : Port) (r : Reply) : (s.setPort p r).att = s.att := rfl
@[simp] theorem State.setPort_pass (s : State) (p : Port) (r : Reply) :
    (s.setPort p r).pass = { s.pass with port := p, reply := r } := rfl
@[simp] theorem State.setPort_maps (s : State) (p : Port) (r : Reply) : (s.setPort p r).maps = s.maps := rfl
@[simp] theorem State.setPort_chans (s : State) (p : Port) (r : Reply) : (s.setPort p r).chans = s.chans := rfl
@[simp] theorem State.setPort_mem (s : State) (p : Port) (r : Reply) : (s.setPort p r).mem = s.mem := rfl
@[simp] theorem State.setPort_offers (s : State) (p : Port) (r : Reply) : (s.setPort p r).offers = s.offers := rfl
@[simp] theorem State.setPort_choice (s : State) (p : Port) (r : Reply) : (s.setPort p r).choice = s.choice := rfl
@[simp] theorem State.setPort_pending (s : State) (p : Port) (r : Reply) : (s.setPort p r).pending = s.pending := rfl

@[simp] theorem State.startTimed_time (s : State) (c : Fin 10) (w : Stamp) : (s.startTimed c w).time = s.time := rfl
@[simp] theorem State.startTimed_link (s : State) (c : Fin 10) (w : Stamp) : (s.startTimed c w).link = s.link := rfl
@[simp] theorem State.startTimed_zones (s : State) (c : Fin 10) (w : Stamp) :
    (s.startTimed c w).zones = s.zones := rfl
@[simp] theorem State.startTimed_days (s : State) (c : Fin 10) (w : Stamp) : (s.startTimed c w).days = s.days := rfl
@[simp] theorem State.startTimed_seqs (s : State) (c : Fin 10) (w : Stamp) : (s.startTimed c w).seqs = s.seqs := rfl
@[simp] theorem State.startTimed_weigh (s : State) (c : Fin 10) (w : Stamp) :
    (s.startTimed c w).weigh = s.weigh := rfl
@[simp] theorem State.startTimed_lines (s : State) (c : Fin 10) (w : Stamp) :
    (s.startTimed c w).lines = s.lines := rfl
@[simp] theorem State.startTimed_hist (s : State) (c : Fin 10) (w : Stamp) : (s.startTimed c w).hist = s.hist := rfl
@[simp] theorem State.startTimed_att (s : State) (c : Fin 10) (w : Stamp) : (s.startTimed c w).att = s.att := rfl
@[simp] theorem State.startTimed_pass (s : State) (c : Fin 10) (w : Stamp) : (s.startTimed c w).pass = s.pass := rfl
@[simp] theorem State.startTimed_maps (s : State) (c : Fin 10) (w : Stamp) : (s.startTimed c w).maps = s.maps := rfl
@[simp] theorem State.startTimed_chans (s : State) (c : Fin 10) (w : Stamp) :
    (s.startTimed c w).chans = s.chans.set c ⟨.running, some w, false, none, false, false⟩ := rfl
@[simp] theorem State.startTimed_mem (s : State) (c : Fin 10) (w : Stamp) : (s.startTimed c w).mem = s.mem := rfl
@[simp] theorem State.startTimed_offers (s : State) (c : Fin 10) (w : Stamp) :
    (s.startTimed c w).offers = s.offers := rfl
@[simp] theorem State.startTimed_choice (s : State) (c : Fin 10) (w : Stamp) :
    (s.startTimed c w).choice = s.choice := rfl
@[simp] theorem State.startTimed_pending (s : State) (c : Fin 10) (w : Stamp) :
    (s.startTimed c w).pending = s.pending := rfl

@[simp] theorem State.startAbort_time (s : State) (c : Fin 10) (w : Stamp) : (s.startAbort c w).time = s.time := rfl
@[simp] theorem State.startAbort_link (s : State) (c : Fin 10) (w : Stamp) : (s.startAbort c w).link = s.link := rfl
@[simp] theorem State.startAbort_zones (s : State) (c : Fin 10) (w : Stamp) :
    (s.startAbort c w).zones = s.zones := rfl
@[simp] theorem State.startAbort_days (s : State) (c : Fin 10) (w : Stamp) : (s.startAbort c w).days = s.days := rfl
@[simp] theorem State.startAbort_seqs (s : State) (c : Fin 10) (w : Stamp) : (s.startAbort c w).seqs = s.seqs := rfl
@[simp] theorem State.startAbort_weigh (s : State) (c : Fin 10) (w : Stamp) :
    (s.startAbort c w).weigh = s.weigh := rfl
@[simp] theorem State.startAbort_lines (s : State) (c : Fin 10) (w : Stamp) :
    (s.startAbort c w).lines = s.lines := rfl
@[simp] theorem State.startAbort_hist (s : State) (c : Fin 10) (w : Stamp) : (s.startAbort c w).hist = s.hist := rfl
@[simp] theorem State.startAbort_att (s : State) (c : Fin 10) (w : Stamp) : (s.startAbort c w).att = s.att := rfl
@[simp] theorem State.startAbort_pass (s : State) (c : Fin 10) (w : Stamp) : (s.startAbort c w).pass = s.pass := rfl
@[simp] theorem State.startAbort_maps (s : State) (c : Fin 10) (w : Stamp) : (s.startAbort c w).maps = s.maps := rfl
@[simp] theorem State.startAbort_chans (s : State) (c : Fin 10) (w : Stamp) :
    (s.startAbort c w).chans = s.chans.set c ⟨.running, some w, true, none, false, false⟩ := rfl
@[simp] theorem State.startAbort_mem (s : State) (c : Fin 10) (w : Stamp) : (s.startAbort c w).mem = s.mem := rfl
@[simp] theorem State.startAbort_offers (s : State) (c : Fin 10) (w : Stamp) :
    (s.startAbort c w).offers = s.offers := rfl
@[simp] theorem State.startAbort_choice (s : State) (c : Fin 10) (w : Stamp) :
    (s.startAbort c w).choice = s.choice := rfl
@[simp] theorem State.startAbort_pending (s : State) (c : Fin 10) (w : Stamp) :
    (s.startAbort c w).pending = s.pending := rfl

@[simp] theorem State.reserve_time (s : State) : s.reserve.time = s.time := rfl
@[simp] theorem State.reserve_link (s : State) : s.reserve.link = s.link := rfl
@[simp] theorem State.reserve_zones (s : State) : s.reserve.zones = s.zones := rfl
@[simp] theorem State.reserve_days (s : State) : s.reserve.days = s.days := rfl
@[simp] theorem State.reserve_seqs (s : State) : s.reserve.seqs = s.seqs := rfl
@[simp] theorem State.reserve_weigh (s : State) : s.reserve.weigh = s.weigh := rfl
@[simp] theorem State.reserve_lines (s : State) : s.reserve.lines = s.lines := rfl
@[simp] theorem State.reserve_hist (s : State) :
    s.reserve.hist = { s.hist with reserved := s.hist.reserved + 1 } := rfl
@[simp] theorem State.reserve_att (s : State) : s.reserve.att = s.att := rfl
@[simp] theorem State.reserve_pass (s : State) : s.reserve.pass = s.pass := rfl
@[simp] theorem State.reserve_maps (s : State) : s.reserve.maps = s.maps := rfl
@[simp] theorem State.reserve_chans (s : State) : s.reserve.chans = s.chans := rfl
@[simp] theorem State.reserve_mem (s : State) : s.reserve.mem = s.mem := rfl
@[simp] theorem State.reserve_offers (s : State) : s.reserve.offers = s.offers := rfl
@[simp] theorem State.reserve_choice (s : State) : s.reserve.choice = s.choice := rfl
@[simp] theorem State.reserve_pending (s : State) : s.reserve.pending = s.pending := rfl

@[simp] theorem State.release_time (s : State) : s.release.time = s.time := rfl
@[simp] theorem State.release_link (s : State) : s.release.link = s.link := rfl
@[simp] theorem State.release_zones (s : State) : s.release.zones = s.zones := rfl
@[simp] theorem State.release_days (s : State) : s.release.days = s.days := rfl
@[simp] theorem State.release_seqs (s : State) : s.release.seqs = s.seqs := rfl
@[simp] theorem State.release_weigh (s : State) : s.release.weigh = s.weigh := rfl
@[simp] theorem State.release_lines (s : State) : s.release.lines = s.lines := rfl
@[simp] theorem State.release_hist (s : State) :
    s.release.hist = { s.hist with reserved := s.hist.reserved - 1 } := rfl
@[simp] theorem State.release_att (s : State) : s.release.att = s.att := rfl
@[simp] theorem State.release_pass (s : State) : s.release.pass = s.pass := rfl
@[simp] theorem State.release_maps (s : State) : s.release.maps = s.maps := rfl
@[simp] theorem State.release_chans (s : State) : s.release.chans = s.chans := rfl
@[simp] theorem State.release_mem (s : State) : s.release.mem = s.mem := rfl
@[simp] theorem State.release_offers (s : State) : s.release.offers = s.offers := rfl
@[simp] theorem State.release_choice (s : State) : s.release.choice = s.choice := rfl
@[simp] theorem State.release_pending (s : State) : s.release.pending = s.pending := rfl

/-- A level is read from the lines and the map in effect. -/
theorem State.level_congr {s t : State} (hl : t.lines = s.lines) (hm : t.maps.map = s.maps.map) (f : LineFunction) :
    t.level f = s.level f := by
  simp [State.level, State.cell, MapUnit.effective, hl, hm]

end Sys2Proof.Machine
end

