-- ==== Sys2Proof/Laws/Ops.lean ====
section
/-! SUPPORT. What each shared operation can do, said once: which parts of the state it may replace, and the bounds
it keeps. Cite these instead of unfolding the operations. -/

namespace Sys2Proof.Machine

/-! ## The end of a step -/

/-- Delivery replaces the Attention Unit, empties the reports and may advance the choice counter. -/
theorem State.deliver_spec (s : State) : ∃ a n, s.deliver = ((s.setAtt a).setOffers []).setChoice n := by
  unfold State.deliver
  split
  · next h => exact ⟨s.att, s.choice, by simp [State.setAtt, State.setOffers, State.setChoice, ← h]⟩
  · next r _ => exact ⟨s.att.take r, s.choice, rfl⟩
  · exact ⟨_, _, rfl⟩

/-- With no report, delivery changes nothing. -/
theorem State.deliver_nil {s : State} (h : s.offers = []) : s.deliver = s := by
  unfold State.deliver
  split
  · rfl
  · next h' => simp [h] at h'
  · next hn _ => exact absurd h hn

@[simp] theorem State.deliver_offers (s : State) : s.deliver.offers = [] := by
  obtain ⟨a, n, h⟩ := s.deliver_spec; simp [h]
@[simp] theorem State.deliver_time (s : State) : s.deliver.time = s.time := by
  obtain ⟨a, n, h⟩ := s.deliver_spec; simp [h]
@[simp] theorem State.deliver_link (s : State) : s.deliver.link = s.link := by
  obtain ⟨a, n, h⟩ := s.deliver_spec; simp [h]
@[simp] theorem State.deliver_zones (s : State) : s.deliver.zones = s.zones := by
  obtain ⟨a, n, h⟩ := s.deliver_spec; simp [h]
@[simp] theorem State.deliver_days (s : State) : s.deliver.days = s.days := by
  obtain ⟨a, n, h⟩ := s.deliver_spec; simp [h]
@[simp] theorem State.deliver_seqs (s : State) : s.deliver.seqs = s.seqs := by
  obtain ⟨a, n, h⟩ := s.deliver_spec; simp [h]
@[simp] theorem State.deliver_weigh (s : State) : s.deliver.weigh = s.weigh := by
  obtain ⟨a, n, h⟩ := s.deliver_spec; simp [h]
@[simp] theorem State.deliver_lines (s : State) : s.deliver.lines = s.lines := by
  obtain ⟨a, n, h⟩ := s.deliver_spec; simp [h]
@[simp] theorem State.deliver_hist (s : State) : s.deliver.hist = s.hist := by
  obtain ⟨a, n, h⟩ := s.deliver_spec; simp [h]
@[simp] theorem State.deliver_pass (s : State) : s.deliver.pass = s.pass := by
  obtain ⟨a, n, h⟩ := s.deliver_spec; simp [h]
@[simp] theorem State.deliver_maps (s : State) : s.deliver.maps = s.maps := by
  obtain ⟨a, n, h⟩ := s.deliver_spec; simp [h]
@[simp] theorem State.deliver_chans (s : State) : s.deliver.chans = s.chans := by
  obtain ⟨a, n, h⟩ := s.deliver_spec; simp [h]
@[simp] theorem State.deliver_mem (s : State) : s.deliver.mem = s.mem := by
  obtain ⟨a, n, h⟩ := s.deliver_spec; simp [h]
@[simp] theorem State.deliver_pending (s : State) : s.deliver.pending = s.pending := by
  obtain ⟨a, n, h⟩ := s.deliver_spec; simp [h]

/-! ## The injection queue -/

/-- Placing a write replaces the queue and the waiting writes, nothing else of the passage. -/
theorem Passage.place_spec (p : Passage) (e : QEntry) :
    ∃ q w, p.place e = { p with queue := q, waiting := w } ∧ (p.queue.length ≤ Config.queueCap → q.length ≤ Config.queueCap) := by
  unfold Passage.place
  split
  · exact ⟨p.queue, _, rfl, id⟩
  · split
    · next h => exact ⟨_, p.waiting, rfl, fun _ => by simpa using h⟩
    · exact ⟨p.queue, _, rfl, id⟩

/-- So does placing several. -/
theorem Passage.placeAll_spec (p : Passage) (es : List QEntry) :
    ∃ q w, p.placeAll es = { p with queue := q, waiting := w } ∧ (p.queue.length ≤ Config.queueCap → q.length ≤ Config.queueCap) := by
  induction es generalizing p with
  | nil => exact ⟨p.queue, p.waiting, rfl, id⟩
  | cons e es ih =>
    obtain ⟨q, w, h, hl⟩ := p.place_spec e
    obtain ⟨q', w', h', hl'⟩ := ih (p.place e)
    refine ⟨q', w', ?_, fun hp => hl' ?_⟩
    · have : p.placeAll (e :: es) = (p.place e).placeAll es := rfl
      rw [this, h', h]
    · rw [h]; exact hl hp

/-- Placing writes replaces the queue and the waiting writes of the passage. -/
theorem State.injectAll_spec (s : State) (es : List QEntry) :
    ∃ q w, s.injectAll es = s.setPass { s.pass with queue := q, waiting := w } := by
  obtain ⟨q, w, h, -⟩ := s.pass.placeAll_spec es
  exact ⟨q, w, by rw [State.injectAll, h]⟩

/-- Filling a freed place replaces the queue and the waiting writes. -/
theorem Passage.fill_spec (p : Passage) :
    ∃ q w, p.fill = { p with queue := q, waiting := w } ∧ (p.queue.length ≤ Config.queueCap → q.length ≤ Config.queueCap) := by
  unfold Passage.fill
  split
  · next h =>
    split
    · exact ⟨p.queue, p.waiting, rfl, id⟩
    · exact ⟨p.queue, _, rfl, id⟩
    · exact ⟨_, _, rfl, fun _ => by simpa using h⟩
    · exact ⟨_, _, rfl, fun _ => by simpa using h⟩
  · exact ⟨p.queue, p.waiting, rfl, id⟩

/-! ## Completions -/

/-- Placing a stamp replaces channel records and the queue of the passage. -/
theorem State.placeStamp_spec (s : State) (c : Fin 10) :
    ∃ ch q w, s.placeStamp c = (s.setChans ch).setPass { s.pass with queue := q, waiting := w } := by
  have key : ∃ ch q w, s = (s.setChans ch).setPass { s.pass with queue := q, waiting := w } :=
    ⟨s.chans, s.pass.queue, s.pass.waiting, rfl⟩
  simp only [State.placeStamp]
  split
  · split
    · obtain ⟨q, w, h, -⟩ := s.pass.place_spec
        ⟨_, _, _⟩
      exact ⟨_, q, w, by rw [← h]; rfl⟩
    · exact key
  · exact key

/-- Handing over a completion replaces channel records. -/
theorem State.finish_spec (s : State) (c : Fin 10) (code : Byte) : ∃ ch, s.finish c code = s.setChans ch := by
  unfold State.finish
  split
  · exact ⟨_, rfl⟩
  · exact ⟨s.chans, rfl⟩

/-- Completing a command replaces channel records and the queue of the passage. -/
theorem State.complete_spec (s : State) (c : Fin 10) (code : Byte) :
    ∃ ch q w, s.complete c code = (s.setChans ch).setPass { s.pass with queue := q, waiting := w } := by
  obtain ⟨ch, h⟩ := s.finish_spec c code
  obtain ⟨ch', q, w, h'⟩ := (s.finish c code).placeStamp_spec c
  refine ⟨ch', q, w, ?_⟩
  rw [State.complete, h', h]
  rfl

/-! ## The appender and the close -/

/-- The append test replaces the append, the ring-full flag, the queue of the passage and the reports. -/
theorem State.appendTest_spec (s : State) :
    ∃ x f q w o, s.appendTest = ((s.setHist { s.hist with append := x, ringFull := f }).setPass
      { s.pass with queue := q, waiting := w }).setOffers o := by
  have key : ∃ x f q w o, s = ((s.setHist { s.hist with append := x, ringFull := f }).setPass
      { s.pass with queue := q, waiting := w }).setOffers o :=
    ⟨s.hist.append, s.hist.ringFull, s.pass.queue, s.pass.waiting, s.offers, rfl⟩
  unfold State.appendTest
  split
  · exact key
  · next r _ =>
    split
    · split
      · split
        · exact key
        · exact ⟨s.hist.append, true, s.pass.queue, s.pass.waiting,
            s.offers ++ [.cause .ringFull 0 (byteOf s.hist.occupied)], rfl⟩
      · obtain ⟨q, w, h⟩ := (s.setHist { s.hist with append := some s.hist.write, ringFull := false }).injectAll_spec
          (appendWrites r s.hist.write s.hist.backlog[s.hist.oldest])
        exact ⟨some s.hist.write, false, q, w, s.offers, h⟩
    · exact key

/-- Closing a record replaces the History Unit, one daylight, the queue of the passage and the reports. -/
theorem State.closeRecord_spec (s : State) (d : Fin 4) (o : RecordOutcome) :
    ∃ h x q w r, s.closeRecord d o
      = (((s.setHist h).setDay d x).setPass { s.pass with queue := q, waiting := w }).setOffers r := by
  have self : s.days.set d s.days[d] = s.days := by simp
  unfold State.closeRecord
  split
  · exact ⟨s.hist, s.days[d], s.pass.queue, s.pass.waiting, s.offers, by simp [State.setDay, State.setHist,
      State.setDays, State.setPass, State.setOffers]⟩
  · next rec _ =>
    obtain ⟨x, f, q, w, r, he⟩ := State.appendTest_spec _
    exact ⟨{ s.hist with
        backlog := s.hist.backlog.set s.hist.fill (recordBytes d s.days[d] rec o s.time s.maps.generation)
        fill := nextPosition s.hist.fill
        occupied := s.hist.occupied + 1
        reserved := s.hist.reserved - 1
        append := x
        ringFull := f }, _, q, w, r, by rw [he]; rfl⟩

/-! ## The Attention Unit -/

/-- The code of a kind names the kind. -/
theorem CauseKind.code_injective : ∀ a b : CauseKind, a.code = b.code → a = b := by
  intro a b
  cases a <;> cases b <;> decide

/-- The key of an entry names its kind and source. -/
theorem causeKey_injective {a b : CauseKind} {x y : Byte} (h : causeKey a x = causeKey b y) : a = b ∧ x = y := by
  have hx := x.isLt
  have hy := y.isLt
  simp only [causeKey] at h
  exact ⟨CauseKind.code_injective a b (by omega), BitVec.eq_of_toNat_eq (by omega)⟩

/-- A new entry adds one to the set. -/
theorem insertEntry_length (e : Entry) : ∀ l, (insertEntry e l).length = l.length + 1
  | [] => rfl
  | x :: rest => by
    unfold insertEntry
    split
    · rfl
    · simp [insertEntry_length e rest]

/-- The elements after an insertion are the element and the elements before. -/
theorem mem_insertEntry (e y : Entry) : ∀ l, y ∈ insertEntry e l ↔ y = e ∨ y ∈ l
  | [] => by simp [insertEntry]
  | x :: rest => by
    unfold insertEntry
    split
    · simp
    · simp [mem_insertEntry e y rest]; tauto

/-- Offering a cause keeps the mask. -/
theorem Attention.offer_mask (a : Attention) (k : CauseKind) (x y : Byte) : (a.offer k x y).mask = a.mask := by
  unfold Attention.offer
  split
  · rfl
  · split <;> rfl

/-- Taking a report keeps the mask. -/
theorem Attention.take_mask (a : Attention) (r : Report) : (a.take r).mask = a.mask := by
  cases r with
  | cause k x y => exact a.offer_mask k x y
  | resolution p y =>
    simp only [Attention.take, Attention.resolve]
    split
    · rfl
    · exact a.offer_mask _ _ _

/-! ## The order of the reports of a step -/

/-- Inserting keeps every element. -/
theorem insertBy_perm {α : Type} (place : α → Nat) (x : α) : ∀ l, (insertBy place x l).Perm (x :: l)
  | [] => .refl _
  | y :: rest => by
    unfold insertBy
    split
    · exact .refl _
    · exact ((insertBy_perm place x rest).cons y).trans (.swap x y rest)

/-- Arranging keeps every element. -/
theorem arrange_perm {α : Type} (place : α → Nat) (l : List α) : (arrange place l).Perm l := by
  have key : ∀ (l acc : List α), (l.foldl (fun acc x => insertBy place x acc) acc).Perm (l ++ acc) := by
    intro l
    induction l with
    | nil => exact fun acc => .refl _
    | cons x l ih =>
      intro acc
      exact (ih _).trans (((insertBy_perm place x acc).append_left l).trans List.perm_middle)
  simpa [arrange] using key l []

/-- Placing reports keeps them. -/
theorem placeReports_snd (n : Nat) : ∀ (low : Nat) (rs : List Report), (placeReports n low rs).map Prod.snd = rs
  | _, [] => rfl
  | low, r :: rest => by
    unfold placeReports
    split <;> simp [placeReports_snd n _ rest]

/-- The reports of a step are taken each once. -/
theorem orderReports_perm (n : Nat) (rs : List Report) : (orderReports n rs).Perm rs := by
  have h := (arrange_perm Prod.fst (placeReports n 0 rs)).map Prod.snd
  rwa [placeReports_snd] at h

/-- The places of a list rise. -/
abbrev Rising {α : Type} (place : α → Nat) (l : List α) : Prop := l.Pairwise fun a b => place a ≤ place b

/-- Inserting keeps the places rising. -/
theorem insertBy_rising {α : Type} (place : α → Nat) (x : α) : ∀ l, Rising place l → Rising place (insertBy place x l)
  | [], _ => by simp [insertBy]
  | y :: rest, h => by
    obtain ⟨hy, hr⟩ := List.pairwise_cons.mp h
    unfold insertBy
    split
    · next hlt =>
      refine List.pairwise_cons.mpr ⟨fun z hz => ?_, h⟩
      rcases List.mem_cons.mp hz with rfl | hz
      · omega
      · exact le_trans (by omega) (hy z hz)
    · next hlt =>
      refine List.pairwise_cons.mpr ⟨fun z hz => ?_, insertBy_rising place x rest hr⟩
      rcases List.mem_cons.mp ((insertBy_perm place x rest).mem_iff.mp hz) with rfl | hz
      · omega
      · exact hy z hz

/-- An element that stands no lower than the chosen ones of a list is inserted behind them. -/
theorem insertBy_filter {α : Type} (place : α → Nat) (p : α → Bool) (x : α) :
    ∀ l, Rising place l → (∀ y ∈ l, p y = true → p x = true → place y ≤ place x) →
      (insertBy place x l).filter p = l.filter p ++ [x].filter p
  | [], _, _ => by simp [insertBy]
  | y :: rest, hs, h => by
    obtain ⟨hy, hr⟩ := List.pairwise_cons.mp hs
    unfold insertBy
    split
    · next hlt =>
      cases hx : p x
      · simp [List.filter_cons, hx]
      · have none : (y :: rest).filter p = [] := by
          refine List.filter_eq_nil_iff.mpr fun z hz hpz => ?_
          have hxz := h z hz hpz hx
          rcases List.mem_cons.mp hz with rfl | hz
          · omega
          · have := hy z hz; omega
        rw [List.filter_cons, none]
        simp [hx]
    · have ih := insertBy_filter place p x rest hr fun z hz => h z (List.mem_cons_of_mem _ hz)
      simp only [List.filter_cons (x := y), ih]
      split <;> simp

/-- The reports that follow are taken in the order they were raised in: the resolutions of one event head first (R20),
those of several events in the order of the events (log 38), COMMIT ACCEPTED after those of its own switch (R142). -/
theorem orderReports_follows (n : Nat) (rs : List Report) :
    (orderReports n rs).filter Report.follows = rs.filter Report.follows := by
  have key : ∀ (rs : List Report) (low : Nat) (acc : List (Nat × Report)), Rising Prod.fst acc →
      (∀ y ∈ acc, y.2.follows = true → y.1 ≤ low) →
      ((placeReports n low rs).foldl (fun acc x => insertBy Prod.fst x acc) acc).filter (fun y => y.2.follows)
        = acc.filter (fun y => y.2.follows) ++ (placeReports n low rs).filter (fun y => y.2.follows) := by
    intro rs
    induction rs with
    | nil => intro low acc _ _; simp [placeReports]
    | cons r rs ih =>
      intro low acc hs hlow
      have step : ∀ (x : Nat × Report) (low' : Nat), low ≤ low' → (x.2.follows = true → low ≤ x.1 ∧ x.1 ≤ low') →
          (((x :: placeReports n low' rs).foldl (fun acc x => insertBy Prod.fst x acc) acc).filter
            fun y => y.2.follows)
          = acc.filter (fun y => y.2.follows) ++ (x :: placeReports n low' rs).filter fun y => y.2.follows := by
        intro x low' hle hx
        rw [List.foldl_cons, ih low' _ (insertBy_rising _ x acc hs) ?_, insertBy_filter _ _ x acc hs ?_]
        · simp [List.filter_cons]
          split <;> simp
        · exact fun y hy hfy hfx => le_trans (hlow y hy hfy) (hx hfx).1
        · intro y hy hfy
          rcases List.mem_cons.mp ((insertBy_perm Prod.fst x acc).mem_iff.mp hy) with rfl | hy
          · exact (hx hfy).2
          · exact le_trans (hlow y hy hfy) hle
      unfold placeReports
      split
      · exact step (max low (r.place n), r) _ (le_max_left _ _) fun _ => ⟨le_max_left _ _, le_rfl⟩
      · next hf => exact step (r.place n, r) low le_rfl fun h => absurd h hf
  have h := key rs 0 [] List.Pairwise.nil (by simp)
  have snd : ∀ l : List (Nat × Report), (l.filter fun y => y.2.follows).map Prod.snd
      = (l.map Prod.snd).filter Report.follows := by
    intro l; rw [List.filter_map]; rfl
  have h' := congrArg (List.map Prod.snd) h
  simp only [List.filter_nil, List.nil_append, snd, placeReports_snd] at h'
  exact h'

/-! ## The Demould Sequencer -/

/-- A stop event leaves a sequence in no phase that can be stopped. -/
theorem Phase.stoppable_iff (p : Phase) : p.stoppable = true ↔ p = .extending ∨ p = .retracting ∨ p = .dwell := by
  cases p <;> simp [Phase.stoppable]

/-! ## The host port -/

/-- An access taken on a free port with none before it is taken, given its cycle when it may have one, and nothing
follows. -/
theorem State.hostAccess_idle {s : State} (a : Access) (hp : s.portIdle = true) (hu : s.pass.upcoming = [])
    (ho : s.offers = []) :
    s.hostAccess a = ((s.takeAccess a).arbitrate).present [] := by
  simp [State.hostAccess, hu, State.present, hp, State.deliver, ho]

end Sys2Proof.Machine
end

