-- ==== Sys2Proof/WellFormed.lean ====
section
/-! DEFINITION. What a command's operands must satisfy to be one that can arrive at the part. -/

namespace Sys2Proof

/-- Every access is word-aligned (00_scope.md, Addresses; the host port has address lines 23..2). -/
def wordAligned (a : Addr) : Bool := a.toNat % 4 == 0

/-- A break is a framing error as well (R71): the line held low for the whole character reads as zeros. -/
def RxChar.wf (c : RxChar) : Bool := !c.broken || (c.framing && c.byte == 0)

/-- A channel command is an access at a word address. -/
def CommandWrite.wf (w : CommandWrite) : Bool := wordAligned w.addr

/-- The checks of a command's operands. -/
def Instr.wf : Instr → Bool
  | .restartLink w => w.wf
  | .load w => w.wf
  | .demould w => w.wf
  | .abort w => w.wf
  | .scrap w => w.wf
  | .manualRelease w => w.wf
  | .setLine w => w.wf
  | .openCharge w => w.wf
  | .closeCharge w => w.wf
  | .discardCharge w => w.wf
  | .setpointWrite a _ _ => wordAligned a
  | .platenBroadcastWrite a _ _ => wordAligned a
  | .unknownCode a _ _ => wordAligned a
  | .writeToOwnedWindow a _ _ => wordAligned a
  | .imageBlockFirstWordRead a => wordAligned a
  | .recordRead a => wordAligned a
  | .headSilent _ answer => (answer.getD []).all RxChar.wf
  | .answerEnd chars => chars.all RxChar.wf
  | .powerOnReset => true
  | .cellReset => true
  | .sweepEnd => true
  | .returnFrame _ => true
  | .moduleLost _ => true
  | .linkOffline => true
  | .discoveryShort => true
  | .detailRideLimit => true
  | .zoneStale _ => true
  | .setpointNotApplied _ => true
  | .cureGap _ => true
  | .cureTimeout _ => true
  | .debouncedChange _ _ => true
  | .strokeTimeout _ => true
  | .retractTimeout _ => true
  | .dwellExpiry _ => true
  | .finalRetractTimeout _ => true
  | .poll => true
  | .answerWaitExpiry => true
  | .chargeExpired => true
  | .stampPlaced _ => true
  | .completionStampReachesMemory _ => true
  | .queuePlace => true
  | .injectedWriteReachesMemory => true
  | .appendBegin => true
  | .appendEnd => true
  | .readIndexWrite _ _ => true
  | .attentionRead => true
  | .pendingCountRead => true
  | .classMaskWrite _ _ => true
  | .commit _ _ => true
  | .commitFetchStart => true
  | .fetchRead => true
  | .validationDecision => true
  | .commitSwitch => true
  | .commitStampReachesMemory => true
  | .sample _ => true

end Sys2Proof
end

