-- ==== Sys2Proof/Tests/Slice0.lean ====
section
/-! SUPPORT. The author's tests: ill-formed commands refused, small states and single steps from the spec's examples,
and for every statement with hypotheses a state that meets them. -/

namespace Sys2Proof.Tests

open Sys2Proof.Machine

set_option Elab.async false

/-! ## Ill-formed commands -/

def wordAt (a : Addr) : CommandWrite := ⟨a, 0xF, 0x21, 0, 0⟩

theorem test_wf_refuses_an_unaligned_command_word :
    Instr.wf (.load (wordAt 0x340002)) = false ∧ Instr.wf (.load (wordAt 0x340000)) = true := by decide
theorem test_wf_refuses_an_unaligned_write :
    Instr.wf (.setpointWrite 0x100001 0xF 0) = false ∧ Instr.wf (.platenBroadcastWrite 0x100101 0xF 0) = false
      ∧ Instr.wf (.unknownCode 0x340003 0xF 0) = false ∧ Instr.wf (.writeToOwnedWindow 0x101002 0xF 0) = false := by decide
theorem test_wf_refuses_an_unaligned_read :
    Instr.wf (.imageBlockFirstWordRead 0x101102) = false ∧ Instr.wf (.recordRead 0x200001) = false := by decide
theorem test_wf_refuses_a_break_without_framing_error :
    Instr.wf (.answerEnd [⟨0, false, false, true⟩]) = false ∧ Instr.wf (.answerEnd [⟨5, false, true, true⟩]) = false
      ∧ Instr.wf (.headSilent 0 (some [⟨0, false, false, true⟩])) = false
      ∧ Instr.wf (.answerEnd [⟨0, false, true, true⟩]) = true := by decide

/-! ## A cell in operation (12_worked_sequences.md 12.1, and lines and zones of its own) -/

def testMap : CellMap :=
  { CellMap.powerOn with
    dayEnable := 1
    headEnable := 3
    modules := 2
    settle := 3
    band := 20
    ringBase := 0x200000
    ringCap := 64
    channels := (CellMap.powerOn.channels.set 0 4).set 1 4
    setpointW := ⟨0x100000, 1⟩
    imageW := ⟨0x101000, 1⟩
    commandW := ⟨0x340000, 1⟩
    recordW := ⟨0x200000, 2⟩
    zones := (CellMap.powerOn.zones.set 0 ⟨0, 0, true, 1200, 1900, 100, 2000⟩).set 8 ⟨1, 0, true, 1200, 1900, 100, 2000⟩
    recipes := CellMap.powerOn.recipes.set 3
      ⟨true, 5000, 100, 300, 4, 20, 1300, 18000000, 2400, 50, 1000, 1, 500⟩
    lines := ((((((CellMap.powerOn.lines.set 0 ⟨3, 1, 0, 0⟩).set 1 ⟨3, 2, 0, 0⟩).set 2 ⟨3, 3, 0, 0⟩).set 3
      ⟨3, 4, 0, 0⟩).set 4 ⟨3, 5, 0, 0⟩).set 5 ⟨1, 0, 0, 1⟩).set 6 ⟨2, 0, 0, 1⟩ }

def cell : State :=
  { State.reset with
    time := 4860000#32
    maps := ⟨some testMap, 7, false, .idle, 0, []⟩
    pass := { Passage.powerOn with mapped := true }
    hist := { History.powerOn with ring := some ⟨0x200000, 64, 12⟩, write := 17, counter := 1207 }
    att := ⟨[], false, 0⟩
    link := { Link.powerOn with
      state := .running, found := 2
      modules := (Link.powerOn.modules.set 0 ⟨.present, 0, false, false⟩).set 1 ⟨.present, 0, false, false⟩ }
    zones := State.reset.zones.set 0 ⟨some 1650, .fresh, 0, .ok, false, false, some 1650, some 1650, .delivered, 0, false⟩
    weigh := { Weigh.powerOn with
      nextId := 41
      heads := (Weigh.powerOn.heads.set 0 ⟨.unknown, 0, 0, none, [], none⟩).set 1
        ⟨.ready, 0, 0, some ⟨0, 3000⟩, [3000, 3000, 3000], none⟩ } }

/-- The recipe entry of the cell. -/
def recipe3 : RecipeEntry := testMap.recipes[3]

def isNext (o : Host.Outcome State Fault Refusal) (p : State → Bool) : Bool :=
  match o with
  | .next t => p t
  | .fault _ => false
  | .refused _ => false

/-- A command word on channel `c` of the cell. -/
def onChannel (c : Fin 10) (argument : Byte) : CommandWrite := ⟨BitVec.ofNat 24 (0x340000 + 4 * c.val), 0xF, 0x21, argument, 0⟩

theorem test_open_charge_step1 :
    isNext (exec (.openCharge (onChannel 5 3)) cell) (fun t =>
      t.weigh.charges[0].state == .opened && t.weigh.charges[0].id == 41 && t.weigh.charges[0].reference == 3000
        && t.weigh.nextId == 42 && t.weigh.heads[1].held == some 0
        && readWord t.mem 0x340014 == 0x02032111#32) = true := by decide +kernel

/-! ## Helpers of the witnesses -/

/-- A daylight in a state, with the cell's recipe 3 and an open record outside VACANT. -/
def dayIn (x : DayState) : Daylight :=
  { Daylight.powerOn with
    state := x
    recipe := ⟨3, 1300, 18000000, 2400, 50, 1000, 1, 500⟩
    reserved := x == .demoulding
    serial := 1206
    record := if x = .vacant then none
      else some ⟨1, [2500, 2480], 4980, 4800000#32, none, none, [], 0, false, false, false⟩ }

/-- The cell with daylight 0 in a state. -/
def withDay (x : DayState) : State := { cell with days := cell.days.set 0 (dayIn x) }

/-- The cell with daylight 0 in a stroke, its command running on channel 0. -/
def inStroke (x : Phase) (last : Stroke) (attempts dwell : Nat) : State :=
  { withDay .demoulding with
    seqs := cell.seqs.set 0 ⟨x, 1000, 1, dwell, attempts, last, .none, some cell.time⟩
    hist := { cell.hist with reserved := 1 }
    chans := cell.chans.set 0 ⟨.running, some ⟨0x02, 0x07, 0, 0x340000⟩, false, none, false, true⟩ }

/-- A state with the debounced level of line `n` asserted. -/
def asserted (s : State) (n : Fin 32) : State := { s with lines := s.lines.set n ⟨true, 0, false⟩ }

/-- The cell with one sweep in flight and the bytes received for it. -/
def sweeping (slot : CommandSlot) (received : List Byte) (l : Link) : State :=
  { cell with link := { l with inFlight := some ⟨0, slot, l.found, []⟩, received := received } }

/-- A good return header of sweep count 0. -/
def header : List Byte := [0xA5, 0xC3, 0] ++ crcBytes [0xA5, 0xC3, 0]

/-- A return section of position `p`: module status, four channels OK at one temperature, one held setpoint, a
response. -/
def answering (p : Nat) (status kind second : Byte) (temp held : Nat) : List Byte :=
  let body := [byteOf p, status] ++ (List.replicate 4 (bytes16 temp)).flatten ++ [0]
    ++ (List.replicate 4 (bytes16 held)).flatten ++ [kind, second]
  body ++ [0 - byteSum body]

/-- A return section with nothing to report. -/
def returnSection (p : Nat) (temp held : Nat) : List Byte := answering p 0 0 0 temp held

/-- A good frame of both modules. -/
def goodReturn : List Byte := header ++ returnSection 0 1655 1650 ++ returnSection 1 1640 1650

/-- The link with the module at position 0 changed. -/
def withModule (m : Module) : Link := { cell.link with modules := cell.link.modules.set 0 m }

/-- The cell with zone 0 changed and a sweep in flight. -/
def withZone (z : Zone) (received : List Byte) : State :=
  { sweeping .none received cell.link with zones := cell.zones.set 0 z }

/-- A charge of recipe 3 in a state. -/
def charge (x : ChargeState) (plies : List Nat) : ChargeSlot :=
  ⟨x, 1, 41, ⟨3, recipe3⟩, 500, plies, (plies.sum : Nat), .none, 3660000#32⟩

/-- The cell with slot 0 holding a charge. -/
def withCharge (c : ChargeSlot) : State :=
  { cell with weigh := { cell.weigh with charges := cell.weigh.charges.set 0 c } }

/-- The cell with the OPEN charge of head 1 in slot 0. -/
def withOpenCharge (plies : List Nat) : State :=
  { cell with weigh := { cell.weigh with
      charges := cell.weigh.charges.set 0 (charge .opened plies)
      heads := cell.weigh.heads.set 1 { cell.weigh.heads[1] with held := some 0 } } }

/-- A state whose poll slot polls head 1, which has missed `n` times. -/
def polled (s : State) (n : Nat) (discard : Bool) : State :=
  { s with weigh := { s.weigh with
      slot := some ⟨1, pollFrame 1, discard⟩
      heads := s.weigh.heads.set 1 { s.weigh.heads[1] with misses := n } } }

/-- A received character without errors. -/
def char (b : Byte) : RxChar := ⟨b, false, false, false⟩

/-- A good answer of head 1 with no flag set and weight 3000. -/
def goodAnswer : List RxChar :=
  ([0x7D, 2, 0, 0xB8, 0x0B, 0x00] ++ [crcLow [0x7D, 2, 0, 0xB8, 0x0B, 0x00]]).map char

/-- A queued write of a purpose. -/
def queued (p : Purpose) : QEntry := ⟨0x200880, 0xABCD#32, p⟩

/-- A state with its injection queue replaced. -/
def withQueue (s : State) (q : List QEntry) : State := { s with pass := { s.pass with queue := q } }

/-- The cell with a commit of generation 8 in a stage, with a copy. -/
def committing (x : CommitStage) (copy : List Word) (boundary : Option Nat) : State :=
  { cell with
    maps := { cell.maps with stage := x, commitGen := 8, copy := copy }
    pass := { cell.pass with boundary := boundary } }

/-- The word at word index `i` of a small page that passes every check. -/
def pageWord (i : Nat) : Word :=
  match i with
  | 4 => 12#32
  | 5 => 17#32
  | 7 => 1206#32
  | 10 => 0x00010003#32
  | 11 => 0x200000#32
  | 12 => 64#32
  | 16 => 0x100000#32
  | 17 => 1#32
  | 18 => 0x101000#32
  | 19 => 1#32
  | 20 => 0x340000#32
  | 21 => 1#32
  | 22 => 0x200000#32
  | 23 => 2#32
  | _ => if 64 ≤ i ∧ i < 184 ∧ i % 3 = 1 then 0xFF#32 else 0#32

/-- A small page that passes every check. -/
def goodPage : List Word := (List.range 1024).map pageWord

/-- The cell with no setpoint requested and the good page fetched, in a stage. -/
def fetchedGood (x : CommitStage) : State := { committing x goodPage none with zones := State.reset.zones }

/-- A cell in the middle of its work: a charge OPEN, a daylight DEMOULDING, an append in progress with its last write
next, a cause pending, memory written. -/
def working : State :=
  { inStroke .extending .none 1 500 with
    weigh := (withOpenCharge [2500]).weigh
    hist := { cell.hist with occupied := 1, reserved := 1, fill := 1, append := some 17 }
    att := ⟨[⟨.ringFull, 0, 1, 1⟩], false, 0⟩
    mem := [(0x200000, 5)]
    pass := { cell.pass with queue := [queued .indexWord] }
    pending := [.injectedWriteReachesMemory] }

/-! ## The steps of the examples -/

theorem test_crc_of_the_check_string :
    crc16 [0x31, 0x32, 0x33, 0x34, 0x35, 0x36, 0x37, 0x38, 0x39] = 0x29B1#16 := by decide +kernel
theorem test_poll_of_head_1 :
    isNext (exec .poll { cell with weigh := { cell.weigh with lastPolled := some 0 } }) (fun t =>
      t.weigh.slot == some ⟨1, [0x7E, 2, crcLow [0x7E, 2]], false⟩) = true := by decide +kernel
theorem test_load_opens_the_record :
    isNext (exec (.load (onChannel 0 0)) (withCharge (charge .complete [2500, 2480]))) (fun t =>
      t.days[0].state == .loaded && t.days[0].serial == 1207 && t.hist.counter == 1208
        && t.weigh.charges[0].state == .free && readWord t.mem 0x340000 == 0x02002101#32
        && t.pass.queue == [⟨0xFFF01C, 1207#32, .lastSerial⟩]) = true := by decide +kernel
theorem test_demould_is_accepted :
    isNext (exec (.demould (onChannel 0 0)) (withDay .cured)) (fun t =>
      t.days[0].state == .demoulding && t.seqs[0].phase == .extending && t.pinDrive 1 == some true
        && t.hist.reserved == 1 && readWord t.mem 0x340000 == 0x01002102#32) = true := by decide +kernel
theorem test_abort_ends_a_stroke_at_rest :
    isNext (exec (.abort (onChannel 0 0)) (inStroke .extending .none 1 500)) (fun t =>
      t.days[0].state == .faulted && t.days[0].fault == .aborted && t.seqs[0].phase == .idle
        && t.pass.queue == [⟨0x340000, 0x83002103#32, .stamp 0⟩]) = true := by decide +kernel
theorem test_scrap_appends_the_record :
    isNext (exec (.scrap (onChannel 0 0)) (withDay .cured)) (fun t =>
      t.days[0].state == .vacant && t.hist.append == some 17 && t.pass.queue.length == 33
        && t.pass.queue.head?.map QEntry.addr == some 0x200880) = true := by decide +kernel
theorem test_set_line_drives_through_the_polarity :
    isNext (exec (.setLine (onChannel 9 0x86)) cell) (fun t =>
      t.pinDrive 6 == some false && t.imageBit 6 && readWord t.mem 0x340024 == 0x02862131#32) = true := by
  decide +kernel
theorem test_restart_link_begins_discovery :
    isNext (exec (.restartLink (onChannel 8 0)) cell) (fun t =>
      t.link.state == .discovering && t.link.found == 0 && t.chans[8].phase == .running) = true := by decide +kernel
theorem test_sweep_end_reads_a_good_frame :
    isNext (exec .sweepEnd (sweeping .none goodReturn cell.link)) (fun t =>
      t.zones[0].reading == some 1655 && t.zones[8].reading == some 1640 && t.link.health == 0
        && t.link.sweepCount == 1) = true := by decide +kernel
theorem test_an_unmapped_zone_shows_no_applied_setpoint :
    let z := cell.zones[(0 : Fin 40)]
    z.setpointWord true = 0x06720672#32 ∧ z.setpointWord false = 0xFFFF0672#32 := by decide +kernel
theorem test_an_access_before_the_first_fetch_read_is_not_held :
    isNext (exec (.unknownCode 0xFFF040 0xF 5) (committing .fetching [] (some 0))) (fun t =>
        t.pass.reply == .wrote && readWord t.mem 0xFFF040 == 5) = true
      ∧ isNext (exec (.unknownCode 0xFFF040 0xF 5) (committing .fetching [0] (some 0))) (fun t =>
        t.pass.port == .heldFetch ⟨0xFFF040, 0xF, some 5⟩ && t.mem == []) = true := by decide +kernel
theorem test_commit_switches_to_the_page :
    isNext (exec .validationDecision (fetchedGood .validating)) (fun t =>
      t.maps.generation == 8 && t.maps.stage == .stamping && t.pass.mapped && t.hist.counter == 1207
        && t.pass.queue == [⟨0xFFF018, 0x02000008#32, .commitStamp⟩]) = true := by decide +kernel
theorem test_record_body_is_a_record_long :
    (recordBytes 0 (dayIn .cured) ⟨1, [2500, 2480], 4980, 0, none, none, [], 0, false, false, false⟩ .released 0
      7).length = 128 := by decide +kernel

/-! ## States that meet the hypotheses of the statements

One theorem per statement with hypotheses, one part per clause, at a boundary of its range. -/

theorem wit_StepRunsTheFrontCommand : State.reset.pending = [] := by decide +kernel

theorem wit_invariants_memory_queue_pending :
    Memory.wf working.mem = true ∧ working.pass.QueueLegal ∧ working.att.Legal
      ∧ isNext (step working) (fun _ => true) = true := by
  unfold Passage.QueueLegal Attention.Legal; decide +kernel
theorem wit_invariants_backlog_charges_channels :
    working.BacklogLegal ∧ working.weigh.ChargesLegal ∧ (∀ c : Fin 10, working.chans[c].Legal) := by
  unfold State.BacklogLegal Weigh.ChargesLegal Channel.Legal; decide +kernel
theorem wit_AppendStaysClearOfReadIndex : working.hist.AppendLegal := by
  refine ⟨by decide +kernel, fun w h => ⟨by decide +kernel, ⟨0x200000, 64, 12⟩, rfl, ?_⟩⟩
  obtain rfl : 17 = w := Option.some.inj h
  decide +kernel
theorem wit_EjectLawHoldsUnderOneMap :
    working.EjectLaw ∧ isNext (step working) (fun t => t.maps.map == working.maps.map) = true := by
  unfold State.EjectLaw; decide +kernel

theorem wit_CellResetUnmapsThePassage :
    cell.portFree = true ∧ (committing .waiting [] (some 1)).portFree = true
      ∧ (committing .waiting [] (some 1)).maps.stage ≠ .stamping
      ∧ (committing .stamping [] none).portFree = true ∧ (committing .stamping [] none).maps.stage = .stamping := by
  decide +kernel

/-! ### The sweep -/

theorem wit_ReturnFrameIsReceived :
    cell.offers = [] ∧ cell.link.inFlight = none ∧ (sweeping .none [] cell.link).offers = []
      ∧ (sweeping .none [] cell.link).link.inFlight = some ⟨0, .none, 2, []⟩ := by decide +kernel
theorem wit_SweepEndWithoutSweepKeepsTheLink :
    cell.link.inFlight = none ∧ cell.link.state.frames = true ∧ 1 ≤ cell.cell.modules
      ∧ State.reset.link.inFlight = none
      ∧ ¬ (State.reset.link.state.frames = true ∧ 1 ≤ State.reset.cell.modules) := by decide +kernel
theorem wit_SweepEndCountsErrors :
    let s := fun bytes => sweeping .none bytes { withModule ⟨.present, 30, false, false⟩ with health := 79 }
    (∀ bytes ∈ [[], [0xA5, 0xC3, 0, 0, 0], goodReturn], (s bytes).link.inFlight = some ⟨0, .none, 2, []⟩
        ∧ (s bytes).link.restarted = false ∧ (s bytes).link.state = .running ∧ (s bytes).link.health < 80
        ∧ ∀ p : Fin 10, (s bytes).link.modules[p].miss < 31)
      ∧ findFrame [] = none ∧ headerGood [0xA5, 0xC3, 0, 0, 0] 0 = false
      ∧ findFrame [0xA5, 0xC3, 0, 0, 0] = some [0xA5, 0xC3, 0, 0, 0]
      ∧ findFrame goodReturn = some goodReturn ∧ headerGood goodReturn 0 = true
      ∧ checkErrors ⟨0, .none, 2, []⟩ goodReturn = 0
      ∧ checkErrors ⟨0, .none, 2, []⟩ (header ++ returnSection 0 1655 1650 ++ returnSection 0 1 1) = 1 := by
  decide +kernel
theorem wit_SweepEndCountsErrors_places :
    let w : Sweep := ⟨0, .none, 2, []⟩
    let x := { cell.link with modules := cell.link.modules.set 0 ⟨.mismatch, 3, false, false⟩ }
    placeClass w goodReturn 0 = .good ∧ placeClass w goodReturn 1 = .good ∧ x.modules[0].state = .mismatch
      ∧ x.modules[1].state = .present ∧ placeClass w (header ++ returnSection 0 1655 1650) 1 = .missing
      ∧ findFrame (header ++ returnSection 0 1655 1650) = some (header ++ returnSection 0 1655 1650)
      ∧ x.modules[1].counted = true ∧ x.modules[2].counted = false
      ∧ placeClass w (header ++ returnSection 0 1655 1650 ++ returnSection 0 1 1) 1 = .checkError := by decide +kernel
theorem wit_SweepEndCountsErrors_thresholds :
    let w : Sweep := ⟨0, .none, 2, []⟩
    let s := fun x n bytes => sweeping .none bytes { cell.link with state := x, health := n }
    let after := fun x n bytes => ((s x n bytes).link.countSweep w).link.health
    (∀ x ∈ [LinkState.running, .degraded], (s x 87 []).offers = [] ∧ (s x 87 []).link.inFlight = some w
        ∧ (s x 87 []).link.restarted = false ∧ (s x 87 []).link.state = x)
      ∧ after .running 87 [] = 95 ∧ after .running 88 [] = 96 ∧ after .running 120 [] = 128
      ∧ after .degraded 247 [] = 255 ∧ after .degraded 96 goodReturn = 95 ∧ after .degraded 97 goodReturn = 96 := by
  decide +kernel
theorem wit_SweepEndDerivesZonesThenDose :
    isNext (exec .sweepEnd { withDay .loaded with link := { cell.link with state := .degraded, health := 100 } })
      (fun t => t.days[0].record.isSome && t.link.state == .degraded) = true := by decide +kernel
theorem wit_ZoneReadingStates :
    let z := fun x n => ({ cell.zones[0] with rstate := x, heldCount := n } : Zone)
    let r := sectionReading (returnSection 0 1655 1650)
    (z .fresh 7).heldCount < 8 ∧ (z .held 7).rstate = .held ∧ 8 ≤ (z .fresh 8).heldCount
      ∧ (z .stale 9).rstate = .stale ∧ (z .absent 0).rstate = .absent ∧ (z .failed 0).rstate = .failed ∧ testMap.zones[0].channel < 4
      ∧ r.status[0] = .ok ∧ ({ r with status := r.status.set 0 .tripped } : Reading).status[0] = .tripped
      ∧ ({ r with status := r.status.set 0 .sensorBreak } : Reading).status[0] = .sensorBreak
      ∧ ({ r with status := r.status.set 0 .disabled } : Reading).status[0] = .disabled := by decide +kernel
theorem wit_ModuleLossBreaksTheChain :
    let s := sweeping .none [] (withModule ⟨.present, 31, false, false⟩)
    s.link.inFlight = some ⟨0, .none, 2, []⟩ ∧ s.link.restarted = false
      ∧ (s.link.countSweep ⟨0, .none, 2, []⟩).link.breakPoint = some 0 ∧ (0 : Fin 10).val < s.link.found
      ∧ s.link.modules[(1 : Fin 10)].counted = true := by decide +kernel
theorem wit_FullHealthCounterTakesTheLinkOffline :
    let s := sweeping .none [] { cell.link with health := 248, state := .degraded }
    s.link.inFlight = some ⟨0, .none, 2, []⟩ ∧ s.link.restarted = false ∧ s.link.state.frames = true
      ∧ 256 ≤ (s.link.countSweep ⟨0, .none, 2, []⟩).link.health := by decide +kernel
theorem wit_FourthUnansweredProbeEndsDiscovery :
    let s := sweeping (.discover 1) [] { cell.link with state := .discovering, found := 1, probes := 3, health := 87 }
    let w : Sweep := ⟨0, .discover 1, 1, []⟩
    s.link.found < 10 ∧ s.link.inFlight = some w ∧ s.link.restarted = false ∧ s.link.state = .discovering
      ∧ s.link.probes = 3 ∧ identityAnswer w (goodFrame s.link w) 1 = none
      ∧ (s.link.countSweep w).link.health < 96 ∧ (1 : Fin 10).val < s.cell.modules := by decide +kernel
theorem wit_FourthUnansweredProbeEndsDiscovery_identity :
    let s := fun n received => sweeping (.discover n) received
      { cell.link with state := .discovering, found := n, health := 87, restart := true }
    let w := fun n => (⟨0, .discover n, n, []⟩ : Sweep)
    let first := header ++ answering 0 0 1 4 0 0
    let last := header ++ returnSection 0 1655 1650 ++ answering 1 0 1 3 0 0
    (s 0 first).link.inFlight = some (w 0) ∧ (s 0 first).link.restarted = false ∧ (s 0 first).offers = []
      ∧ (s 0 first).link.state = .discovering
      ∧ identityAnswer (w 0) (goodFrame (s 0 first).link (w 0)) 0 = some 4
      ∧ ((s 0 first).link.countSweep (w 0)).link.health < 96 ∧ (4#8).toNat = testMap.channels[0]
      ∧ 0 + 1 < testMap.modules
      ∧ identityAnswer (w 1) (goodFrame (s 1 last).link (w 1)) 1 = some 3 ∧ (3#8).toNat ≠ testMap.channels[1]
      ∧ ((s 1 last).link.countSweep (w 1)).link.health < 96 ∧ ¬ 1 + 1 < testMap.modules := by decide +kernel
theorem wit_RideLimitDropsTheHead :
    let s := sweeping (.detail 1) [] { cell.link with queue := [1, 0], ride := 29 }
    let w : Sweep := ⟨0, .detail 1, 2, []⟩
    s.link.inFlight = some w ∧ s.link.restarted = false
      ∧ (s.link.beforeDetail s.cell w).link.queue = [1, 0] ∧ detailAnswer w (goodFrame s.link w) 1 = none
      ∧ 29 ≤ (s.link.beforeDetail s.cell w).link.ride := by decide +kernel
theorem wit_RideLimitDropsTheHead_code_and_joining :
    let answer := header ++ returnSection 0 1655 1650 ++ answering 1 1 0xFE 0 1640 1650
    let s := sweeping (.detail 1) answer { cell.link with queue := [1, 0] }
    let w : Sweep := ⟨0, .detail 1, 2, []⟩
    let raised := header ++ answering 0 1 0 0 1655 1650 ++ returnSection 1 1640 1650
    let x := sweeping .none raised { cell.link with health := 79 }
    let v : Sweep := ⟨0, .none, 2, []⟩
    s.offers = [] ∧ s.link.inFlight = some w ∧ (s.link.beforeDetail s.cell w).link.queue = [1, 0]
      ∧ detailAnswer w (goodFrame s.link w) 1 = some 0xFE
      ∧ x.offers = [] ∧ x.link.inFlight = some v ∧ x.link.state = .running ∧ goodFrame x.link v = some raised
      ∧ x.link.health < 80 ∧ (∀ p : Fin 10, x.link.modules[p].miss < 31) ∧ x.link.modules[0].state = .present
      ∧ placeClass v raised 0 = .good ∧ sectionAttention (sectionOf raised 0) = true ∧ 0 ∉ x.link.queue := by
  decide +kernel
theorem wit_ZoneSweepLimits :
    let z := cell.zones[0]
    let s := withZone { z with heldCount := 8 } []
    let p := ({ z with delivery := .pending, counter := 29, request := some 1700 } : Zone)
    zoneReport s.cell.zones[(0 : Fin 40)] s.sweepReports = .held ∧ s.zones[(0 : Fin 40)].rstate = .fresh
      ∧ s.zones[(0 : Fin 40)].heldCount = 8
      ∧ (withZone p []).zones[(0 : Fin 40)] = p ∧ p.notApplied = false
      ∧ zoneReport testMap.zones[0] (withZone p []).sweepReports = .held
      ∧ zoneReport testMap.zones[0] (withZone p goodReturn).sweepReports
          = .fresh (sectionReading (returnSection 0 1655 1650))
      ∧ (sectionReading (returnSection 0 1655 1650)).status[0] = .ok
      ∧ p.request ≠ some (sectionReading (returnSection 0 1655 1650)).held[0] := by decide +kernel
theorem wit_CureFaults :
    let s := fun gap sweeps bytes => { sweeping .none bytes cell.link with
      days := cell.days.set 0 { dayIn .curing with gap := gap, sweeps := sweeps } }
    let readings := fun (x : State) => trustedReadings
      ((x.cell.doseZones 0).map fun z => ((deriveZones x.cell x.zones x.sweepReports)[z]).zone)
    readings (s 50 0 []) = none ∧ ((dayIn .curing).sweep none).dose < (dayIn .curing).recipe.doseTarget
      ∧ (s 50 0 []).days[0].recipe.maxGap < ((s 50 0 []).days[0].sweep none).gap
      ∧ readings (s 49 239999 []) = none
      ∧ ¬ (s 49 239999 []).days[0].recipe.maxGap < ((s 49 239999 []).days[0].sweep none).gap
      ∧ readings (s 49 239999 goodReturn) = some [1655, 1640]
      ∧ (dayIn .curing).recipe.maxCure * 100 ≤ 239999 + 1 := by decide +kernel
theorem wit_DoseStepBySweepKind :
    (dayIn .curing).state = .curing ∧ (dayIn .cured).state = .cured
      ∧ ¬ ((dayIn .held).state = .curing ∨ ((dayIn .held).state = .cured ∧ true = true))
      ∧ ¬ ((dayIn .cured).state = .curing ∨ ((dayIn .cured).state = .cured ∧ false = true)) := by decide +kernel

/-! ### Setpoints -/

/-- A value that zone 0 of the cell accepts. -/
def inLimits (data : Word) : Bool :=
  decide (cell.lowLimit 0 ≤ setpointValue data) && decide (setpointValue data ≤ cell.highLimit 0)
    && rampOk cell.cell.zones[(0 : Fin 40)].ramp cell.zones[(0 : Fin 40)].request (setpointValue data)

theorem wit_SetpointWriteAccepted :
    cell.portFree = true ∧ cell.region 0x100000 = .setpoint (4 * (0 : Fin 40).val) ∧ (0x3#4).getLsbD 0 = true
      ∧ (0x3#4).getLsbD 1 = true ∧ cell.cell.zones[(0 : Fin 40)].mapped = true ∧ cell.link.state = .running
      ∧ inLimits 1550 = true ∧ inLimits 1650 = true ∧ inLimits 1750 = true
      ∧ cell.zones[(0 : Fin 40)].request = some (setpointValue 1650#32)
      ∧ cell.zones[(0 : Fin 40)].request ≠ some (setpointValue 1750#32) := by decide +kernel
theorem wit_SetpointWriteRefused :
    cell.region 0x100004 = .setpoint (4 * (1 : Fin 40).val) ∧ cell.cell.zones[(1 : Fin 40)].mapped = false
      ∧ { cell with link := { cell.link with state := .degraded } }.link.state ≠ .running
      ∧ { cell with link := { cell.link with state := .degraded } }.portFree = true
      ∧ setpointValue 1199#32 < cell.lowLimit 0 ∧ cell.highLimit 0 < setpointValue 1901#32
      ∧ cell.lowLimit 0 ≤ setpointValue 1751#32 ∧ setpointValue 1751#32 ≤ cell.highLimit 0
      ∧ rampOk cell.cell.zones[(0 : Fin 40)].ramp cell.zones[(0 : Fin 40)].request (setpointValue 1751#32) = false
      ∧ rampOk cell.cell.zones[(0 : Fin 40)].ramp cell.zones[(0 : Fin 40)].request (setpointValue 1549#32) = false := by
  decide +kernel
theorem wit_SetpointWriteRefused_broadcasts_and_partial :
    let down := { cell with link := { cell.link with state := .degraded } }
    cell.region 0x100108 = .setpoint (0x100 + 4 * (2 : Fin 5).val) ∧ cell.cell.platenZones 2 = []
      ∧ down.portFree = true ∧ down.region 0x100100 = .setpoint (0x100 + 4 * (0 : Fin 5).val)
      ∧ down.cell.platenZones 0 ≠ [] ∧ down.link.state ≠ .running
      ∧ cell.link.state = .running ∧ cell.cell.platenZones 0 = [] ++ 0 :: []
      ∧ ¬ (cell.lowLimit 0 ≤ setpointValue 1199#32) ∧ ¬ (setpointValue 1901#32 ≤ cell.highLimit 0)
      ∧ rampOk cell.cell.zones[(0 : Fin 40)].ramp cell.zones[(0 : Fin 40)].request (setpointValue 1751#32) = false
      ∧ ¬ ((0xD#4).getLsbD 0 = true ∧ (0xD#4).getLsbD 1 = true)
      ∧ ¬ ((0xE#4).getLsbD 0 = true ∧ (0xE#4).getLsbD 1 = true) := by decide +kernel
theorem wit_PlatenBroadcastAccepted :
    cell.region 0x100100 = .setpoint (0x100 + 4 * (0 : Fin 5).val) ∧ cell.cell.platenZones 0 = [0]
      ∧ inLimits 1650 = true ∧ inLimits 1750 = true
      ∧ cell.region 0x100104 = .setpoint (0x100 + 4 * (1 : Fin 5).val) ∧ cell.cell.platenZones 1 = [8] := by
  decide +kernel

/-! ### Daylight commands -/

theorem wit_LoadOpensTheRecord :
    let s := withCharge (charge .complete [2500, 2480])
    s.commandArrives (onChannel 0 0) (dayChannel 0) = true ∧ s.chans[dayChannel 0].phase = .idle
      ∧ s.loadAllowed 0 = true ∧ s.days[(0 : Fin 4)].state = .vacant
      ∧ (onChannel 0 0).argument.toNat = (0 : Fin 6).val ∧ s.level (.closed 0) = false
      ∧ s.weigh.charges[(0 : Fin 6)].state = .complete ∧ s.hist.counter ≠ 0 ∧ s.hist.counter ≠ 0xFFFFFFFF := by
  decide +kernel
theorem wit_DemouldStartsTheStroke :
    let s := { withDay .cured with hist := { cell.hist with occupied := 3 } }
    s.commandArrives (onChannel 0 0) (dayChannel 0) = true ∧ s.chans[dayChannel 0].phase = .idle
      ∧ s.dayEnabled 0 = true ∧ s.days[(0 : Fin 4)].state = .cured ∧ s.level (.closed 0) = false
      ∧ s.level .cellStop = false ∧ s.level (.ejected 0) = false ∧ s.hist.occupied + s.hist.reserved < 4 := by
  decide +kernel
theorem wit_AbortStopsTheStroke :
    (∀ s ∈ [inStroke .extending .none 1 500, asserted (inStroke .retracting .failed 2 500) 2,
        asserted (inStroke .retracting .confirmed 1 500) 2],
      s.commandArrives (onChannel 0 0) (dayChannel 0) = true ∧ s.chans[dayChannel 0].phase = .running
        ∧ s.chans[dayChannel 0].abort = false ∧ s.dayEnabled 0 = true ∧ s.days[(0 : Fin 4)].state = .demoulding
        ∧ s.seqs[(0 : Fin 4)].phase.stoppable = true ∧ s.seqs[(0 : Fin 4)].stop = .none)
      ∧ (inStroke .extending .none 1 500).level (.ejected 0) = false
      ∧ (asserted (inStroke .retracting .failed 2 500) 2).level (.ejected 0) = true
      ∧ (asserted (inStroke .retracting .confirmed 1 500) 2).seqs[(0 : Fin 4)].last = .confirmed := by decide +kernel
theorem wit_ScrapAndManualReleaseCloseTheRecord :
    ∀ x ∈ [DayState.loaded, .curing, .held, .cured, .faulted],
      let s := { withDay x with hist := { cell.hist with occupied := 3 } }
      s.commandArrives (onChannel 0 0) (dayChannel 0) = true ∧ s.chans[dayChannel 0].phase = .idle
        ∧ s.dayEnabled 0 = true ∧ s.days[(0 : Fin 4)].record.isSome = true ∧ s.days[(0 : Fin 4)].state = x
        ∧ s.hist.occupied + s.hist.reserved < 4 := by decide +kernel

/-! ### The other channels -/

theorem wit_RestartLinkStartsDiscovery :
    let s := { cell with maps := { cell.maps with map := some { testMap with modules := 0 } } }
    cell.commandArrives (onChannel 8 0) linkChannel = true ∧ cell.chans[linkChannel].phase = .idle
      ∧ cell.link.queue = [] ∧ s.commandArrives (onChannel 8 0) linkChannel = true
      ∧ s.chans[linkChannel].phase = .idle ∧ s.cell.modules = 0 := by decide +kernel
theorem wit_SetLineDrivesTheLatch :
    (∀ argument ∈ [0x20, 0x7F, 0x1F, 0x05, 0x86],
        cell.commandArrives (onChannel 9 argument) linesChannel = true) ∧ cell.chans[linesChannel].phase = .idle
      ∧ 32 ≤ ((0x20#8).extractLsb' 0 7).toNat ∧ ((0x1F#8).extractLsb' 0 7).toNat = (31 : Fin 32).val
      ∧ cell.cell.lines[(31 : Fin 32)].mode ≠ 2 ∧ ((0x86#8).extractLsb' 0 7).toNat = (6 : Fin 32).val
      ∧ cell.cell.lines[(6 : Fin 32)].mode = 2 ∧ (0x30#8) ≠ 0x31 := by decide +kernel
theorem wit_OpenChargeTakesTheLowestFreeSlot :
    let s := withCharge (charge .suspect [])
    s.commandArrives (onChannel 5 3) (headChannel 1) = true ∧ s.chans[headChannel 1].phase = .idle
      ∧ s.weigh.heads[(1 : Fin 4)].state = .ready ∧ s.openAllowed 1 = true
      ∧ (onChannel 5 3).argument.toNat = (3 : Fin 16).val ∧ s.cell.recipes[(3 : Fin 16)].valid = true
      ∧ s.weigh.heads[(1 : Fin 4)].held = none ∧ s.settled 1 = some 3000
      ∧ s.weigh.charges[(1 : Fin 6)].state = .free
      ∧ ∀ j : Fin 6, j < 1 → s.weigh.charges[j].state ≠ .free := by decide +kernel
theorem wit_CloseChargeJudges :
    (∀ plies ∈ [[], [4899], [4900], [5100], [5101]],
      (withOpenCharge plies).commandArrives (onChannel 5 0) (headChannel 1) = true
        ∧ (withOpenCharge plies).chans[headChannel 1].phase = .idle
        ∧ (withOpenCharge plies).weigh.heads[(1 : Fin 4)].state ≠ .disabled
        ∧ (withOpenCharge plies).weigh.heads[(1 : Fin 4)].held = some 0) := by decide +kernel
theorem wit_DiscardChargeFreesTheSlot :
    let s := withOpenCharge [2500]
    (∀ argument ∈ [0, 1, 6], s.commandArrives (onChannel 4 argument) (headChannel 0) = true)
      ∧ s.chans[headChannel 0].phase = .idle ∧ 5 < (6#8).toNat ∧ s.weigh.charges[(1 : Fin 6)].state = .free
      ∧ s.weigh.charges[(0 : Fin 6)].state ≠ .free ∧ s.weigh.heads[(1 : Fin 4)].held = some 0 := by decide +kernel
theorem wit_RefusedCommandHasNoEffect :
    (cell.ownerDecision 0 ⟨0x01, 0, 6, 0x340000⟩).1 = 0x41 ∧ (cell.ownerDecision 8 ⟨0x01, 0, 0, 0x340020⟩).1 = 0x40 := by
  decide +kernel
theorem wit_CommandWriteTests :
    cell.region 0x340028 = .command 0x28 ∧ cell.region 0x340024 = .command (4 * (9 : Fin 10).val)
      ∧ (0x7#4) ≠ 0xF#4 ∧ (inStroke .extending .none 1 500).region 0x340000 = .command (4 * (0 : Fin 10).val)
      ∧ (inStroke .extending .none 1 500).channelBusy 0 (wordByte 0x02#32 0) = true
      ∧ cell.chans[(9 : Fin 10)].phase = .idle ∧ wordByte 0x32#32 0 ∉ (channelOwner 9).codes := by decide +kernel

/-! ### Lines and strokes -/

/-- The cell with run count `n` on line 0. -/
def running0 (s : State) (level : Bool) (n : Nat) : State := { s with lines := s.lines.set 0 ⟨level, n, false⟩ }

theorem wit_FifthSampleChangesTheLevel :
    let level := fun (pins : BitVec 32) => pins.getLsbD 0 != (testMap.lines[0].polarity == 1)
    testMap.lines[7].sampled = false ∧ testMap.lines[0].sampled = true ∧ level 0 = (running0 cell false 3).lines[0].level
      ∧ level 1 ≠ (running0 cell false 3).lines[0].level ∧ (running0 cell false 3).lines[0].run < 4
      ∧ level 1 ≠ (running0 cell false 4).lines[0].level ∧ 4 ≤ (running0 cell false 4).lines[0].run := by
  decide +kernel
theorem wit_ClosedLineMovesTheDaylight :
    (∀ x ∈ [DayState.loaded, .held, .curing, .cured], ∀ level : Bool,
      let s := running0 (withDay x) level 4
      s.offers = [] ∧ s.changing (if level then 0x20 else 0x21) = [0]
        ∧ s.cell.lines[(0 : Fin 32)].function? = some (.closed 0) ∧ s.seqs[(0 : Fin 4)].phase = .idle
        ∧ s.days[(0 : Fin 4)].state = x ∧ s.lines[(0 : Fin 32)].level = level) := by decide +kernel

/-- A state about to change the debounced level of line `n` from `level`, all other lines of the cell as they are. -/
def changes (s : State) (n : Fin 32) (level : Bool) : State := { s with lines := s.lines.set n ⟨level, 4, false⟩ }

theorem wit_ClosedLineMovesTheDaylight_closed_in_a_stroke :
    let away := inStroke .extending .none 1 500
    let there := asserted (inStroke .dwell .failed 1 500) 2
    (changes away 0 false).changing 0x21 = [0] ∧ (changes there 0 false).changing 0x25 = [0]
      ∧ away.days[(0 : Fin 4)].state = .demoulding ∧ away.seqs[(0 : Fin 4)].stop = .none
      ∧ away.seqs[(0 : Fin 4)].phase.stoppable = true ∧ there.seqs[(0 : Fin 4)].phase.stoppable = true
      ∧ (changes away 0 false).level (.ejected 0) = false ∧ (changes there 0 false).level (.ejected 0) = true := by
  decide +kernel
theorem wit_ClosedLineMovesTheDaylight_ejected :
    let out := fun x last attempts dwell => changes (inStroke x last attempts dwell) 2 true
    (changes (inStroke .extending .none 1 500) 2 false).changing 0x24 = [2]
      ∧ cell.cell.lineOf (.ejected 0) = some 2 ∧ cell.offers = []
      ∧ (∀ x ∈ [Phase.retracting, .finalRetract, .extending, .dwell],
          (out x .confirmed 1 500).changing 0x20 = [2] ∧ (out x .confirmed 1 500).seqs[(0 : Fin 4)].phase = x)
      ∧ (out .retracting .confirmed 1 500).days[(0 : Fin 4)].record.isSome = true
      ∧ (out .retracting .confirmed 1 500).chans[dayChannel 0].phase = .running
      ∧ (out .retracting .failed 1 0).seqs[(0 : Fin 4)].attempts
          < 1 + (out .retracting .failed 1 0).seqs[(0 : Fin 4)].retries
      ∧ ¬ (out .retracting .failed 2 500).seqs[(0 : Fin 4)].attempts
          < 1 + (out .retracting .failed 2 500).seqs[(0 : Fin 4)].retries := by decide +kernel
theorem wit_ClosedLineMovesTheDaylight_cell_stop :
    let away := changes (inStroke .extending .none 1 500) 3 false
    let there := changes (asserted (inStroke .retracting .confirmed 1 500) 2) 3 false
    away.changing 0x28 = [3] ∧ there.changing 0x2C = [3] ∧ (changes cell 3 true).changing 0x20 = [3]
      ∧ cell.cell.lines[(3 : Fin 32)].function? = some .cellStop ∧ away.seqs[(1 : Fin 4)].phase.stoppable = false
      ∧ away.seqs[(0 : Fin 4)].phase.stoppable = true ∧ away.seqs[(0 : Fin 4)].stop = .none
      ∧ away.level (.ejected 0) = false ∧ there.level (.ejected 0) = true
      ∧ ∀ d : Fin 4, there.seqs[d].phase.stoppable = true → there.level (.ejected d) = true := by decide +kernel
theorem wit_StrokeTimers :
    (asserted (inStroke .extending .none 1 500) 2).timerDue 0 .extending = true
      ∧ (asserted (inStroke .extending .none 1 500) 2).level (.ejected 0) = true
      ∧ (∀ n : Fin 3, ∀ dwell ∈ [0, 500], (inStroke .extending .none n.val dwell).timerDue 0 .extending = true
          ∧ (inStroke .extending .none n.val dwell).level (.ejected 0) = false
          ∧ (n.val < 1 + (inStroke .extending .none n.val dwell).seqs[(0 : Fin 4)].retries ↔ n.val < 2))
      ∧ (asserted (inStroke .retracting .failed 1 500) 2).timerDue 0 .retracting = true
      ∧ (asserted (inStroke .finalRetract .none 1 500) 2).timerDue 0 .finalRetract = true
      ∧ (asserted (inStroke .dwell .failed 1 500) 2).timerDue 0 .dwell = true
      ∧ (asserted (inStroke .dwell .failed 1 500) 2).level (.ejected 0) = true
      ∧ (inStroke .dwell .failed 1 500).timerDue 0 .dwell = true
      ∧ (inStroke .dwell .failed 1 500).level (.ejected 0) = false := by decide +kernel

/-! ### Weighing -/

theorem wit_PollAddressesTheNextHead :
    cell.offers = [] ∧ cell.weigh.slot = none
      ∧ nextHead cell.cell.enabledHeads cell.weigh.lastPolled = some 0
      ∧ nextHead cell.cell.enabledHeads (some 1) = some 0 ∧ nextHead cell.cell.enabledHeads (some 0) = some 1
      ∧ ∀ h : Fin 4, State.reset.cell.headEnable.getLsbD h.val = false := by decide +kernel
theorem wit_UnansweredSlotIsAMiss :
    (∀ n ∈ [8, 9], ∀ discard : Bool, (polled cell n discard).offers = []
        ∧ (polled cell n discard).weigh.slot = some ⟨1, pollFrame 1, discard⟩
        ∧ (polled cell n discard).weigh.heads[(1 : Fin 4)].misses = n
        ∧ (polled cell n discard).weigh.heads[(1 : Fin 4)].state = .ready)
      ∧ (polled cell 9 false).weigh.heads[(1 : Fin 4)].held = none
      ∧ (polled (withOpenCharge [2500]) 9 false).weigh.heads[(1 : Fin 4)].held = some 0 := by decide +kernel
theorem wit_AnswersAreTakenOrDiscarded :
    let s := polled (withOpenCharge [2500]) 8 false
    let x := s.weigh.heads[(1 : Fin 4)]
    (evaluateAnswer 1 [⟨0x7D, true, false, false⟩]).isOk = false ∧ x.misses < 9
      ∧ (evaluateAnswer 1 goodAnswer).toOption = some ⟨0, 3000⟩
      ∧ (polled cell 8 false).weigh.heads[(1 : Fin 4)].held = none ∧ s.offers = []
      ∧ settledWeight (({ x with window := [3000, 3000, 2979] } : Head).answer ⟨0, 3000⟩ s.cell.settle).window
          s.cell.settle s.cell.band = none
      ∧ s.weigh.slot = some ⟨1, pollFrame 1, false⟩ ∧ x.held = some 0 ∧ x.state = .ready
      ∧ settledWeight (x.answer ⟨0, 3000⟩ s.cell.settle).window s.cell.settle s.cell.band = some 3000
      ∧ (s.weigh.charges[(0 : Fin 6)].recipe.entry.minPly : Int) ≤ 3000 - s.weigh.charges[(0 : Fin 6)].reference
      ∧ 3000 - s.weigh.charges[(0 : Fin 6)].reference ≤ 65535
      ∧ s.weigh.charges[(0 : Fin 6)].plies.length < s.weigh.charges[(0 : Fin 6)].recipe.entry.maxPlies := by
  decide +kernel
theorem wit_AnswersAreTakenOrDiscarded_falls_and_suspects :
    let s := fun (reference : Int) plies => polled { cell with weigh := { (withOpenCharge plies).weigh with
      charges := cell.weigh.charges.set 0 { charge .opened plies with reference := reference } } } 8 false
    let diff := fun reference : Int => 3000 - reference
    let c := charge .opened [2480, 2500]
    (∀ reference ∈ [5520, 5480, 5521, 3300, 3299, 2701, -62535, -62536],
        let x := s reference [2480, 2500]
        x.offers = [] ∧ x.weigh.slot = some ⟨1, pollFrame 1, false⟩ ∧ x.weigh.heads[(1 : Fin 4)].held = some 0
          ∧ x.weigh.heads[(1 : Fin 4)].state = .ready ∧ x.weigh.charges[(0 : Fin 6)].reference = reference
          ∧ settledWeight (x.weigh.heads[(1 : Fin 4)].answer ⟨0, 3000⟩ x.cell.settle).window x.cell.settle x.cell.band
            = some 3000)
      ∧ (c.recipe.entry.minPly : Int) = 300 ∧ testMap.band = 20 ∧ c.plies.getLast? = some 2500
      ∧ (diff 5520 ≤ -300 ∧ (-diff 5520 - 2500).natAbs ≤ 20) ∧ (diff 5480 ≤ -300 ∧ (-diff 5480 - 2500).natAbs ≤ 20)
      ∧ (diff 5521 ≤ -300 ∧ ¬ (-diff 5521 - 2500).natAbs ≤ 20)
      ∧ (charge .opened []).plies.getLast? = none ∧ (diff 3300 ≤ -300 ∧ diff 3300 < 300)
      ∧ (-300 < diff 3299 ∧ diff 3299 < 300) ∧ (-300 < diff 2701 ∧ diff 2701 < 300)
      ∧ (300 ≤ diff (-62536) ∧ 65535 < diff (-62536))
      ∧ (300 ≤ diff (-62535) ∧ diff (-62535) ≤ 65535)
      ∧ c.recipe.entry.maxPlies ≤ (charge .opened [1, 2, 3, 4]).plies.length := by decide +kernel
theorem wit_ChargesExpireAtTheirLife :
    let s := withCharge (charge .complete [2500])
    s.offers = [] ∧ s.time.toNat % 1000 = 0 ∧ s.weigh.charges[(0 : Fin 6)].recipe.entry.life ≠ 0
      ∧ s.weigh.charges[(0 : Fin 6)].recipe.entry.life * 60000
          = (s.time - s.weigh.charges[(0 : Fin 6)].completed).toNat := by decide +kernel

/-! ### The injection queue and the history -/

theorem wit_StampsFollowTheCommand :
    (∀ written : Bool,
      let c : Channel := ⟨.stamping, some ⟨0x02, 7, 0, 0x340000⟩, false, some 0x02, false, written⟩
      let s := { cell with chans := cell.chans.set 0 c }
      s.offers = [] ∧ s.chans[(0 : Fin 10)].phase = .stamping
        ∧ s.chans[(0 : Fin 10)].stamp = some ⟨0x02, 7, 0, 0x340000⟩
        ∧ s.chans[(0 : Fin 10)].completion = some 0x02 ∧ s.chans[(0 : Fin 10)].placed = false
        ∧ s.chans[(0 : Fin 10)].written = written)
      ∧ (withQueue cell [queued (.stamp 0)]).portFree = true
      ∧ (withQueue cell [queued (.stamp 0)]).queueOffered = true := by decide +kernel
theorem wit_InjectionQueueIsFifo :
    let full := withQueue cell (List.replicate 64 (queued .recordWord))
    let waits := { full with pass := { full.pass with waiting := [(.history, [queued .indexWord])] } }
    let roomy := { cell with pass := { cell.pass with waiting := [(.history, [queued .recordWord, queued .indexWord])] } }
    waits.portFree = true ∧ waits.queueOffered = true ∧ waits.pass.queue.tail.length < 64
      ∧ (withQueue cell [queued .lastSerial]).portFree = true
      ∧ (withQueue cell [queued .lastSerial]).queueOffered = true
      ∧ (withQueue cell [queued .lastSerial]).pass.waiting = []
      ∧ roomy.portFree = true ∧ roomy.pass.queue.length < 64
      ∧ (committing .fetching [] (some 0)).offers = [] ∧ (committing .fetching [] (some 0)).maps.stage = .fetching := by
  decide +kernel
theorem wit_AppendsBeginAndEnd :
    (∀ write ∈ [10, 11], ∀ full : Bool,
      let s := { cell with hist := { cell.hist with
        occupied := 1, fill := 1, ring := some ⟨0x200000, 64, 12⟩, write := write, ringFull := full } }
      s.offers = [] ∧ s.hist.ring = some ⟨0x200000, 64, 12⟩ ∧ s.hist.write = write ∧ 1 ≤ s.hist.occupied ∧ s.hist.append = none
        ∧ s.pass.mapped = true ∧ s.maps.stage ≠ .switching ∧ ((write + 1) % 64 = 12 ↔ write = 11))
      ∧ working.portFree = true ∧ working.pass.queue = [queued .indexWord] ∧ working.queueOffered = true
      ∧ working.hist.ring = some ⟨0x200000, 64, 12⟩ ∧ working.hist.append = some 17
      ∧ working.maps.stage ≠ .switching
      ∧ ({ fetchedGood .switching with hist := working.hist, pass := working.pass }).portFree = true
      ∧ ({ fetchedGood .switching with hist := working.hist, pass := working.pass }).maps.stage = .switching := by
  decide +kernel
theorem wit_ReadIndexWriteIsTakenOrNot :
    working.portFree = true ∧ working.fetchRuns = false ∧ working.pass.mapped = true
      ∧ working.hist.ring = some ⟨0x200000, 64, 12⟩ ∧ 64 ≤ (64#32).toNat ∧ working.hist.append = some 17
      ∧ (18#32).toNat < 64 ∧ (18#32).toNat = (17 + 1) % 64 ∧ (63#32).toNat < 64 ∧ (63#32).toNat ≠ (17 + 1) % 64
      ∧ State.reset.portFree = true ∧ State.reset.fetchRuns = false ∧ State.reset.pass.mapped = false := by
  decide +kernel

/-! ### Attention -/

theorem wit_AttentionReadServesTheMostUrgent :
    let s := { cell with att := ⟨[⟨.cured, 0, 0, 1⟩, ⟨.ringFull, 0, 1, 2⟩], true, 0⟩ }
    s.portFree = true ∧ s.att.Legal ∧ s.fetchRuns = false ∧ (⟨.cured, 0, 0, 1⟩ : Entry) ∈ s.att.ready
      ∧ (∀ x ∈ s.att.ready, (⟨.cured, 0, 0, 1⟩ : Entry).key ≤ x.key) ∧ cell.att.ready = [] ∧ cell.att.Legal
      ∧ (committing .fetching [] (some 0)).portFree = true ∧ (committing .fetching [] (some 0)).fetchRuns = false
      ∧ (committing .fetching [0] (some 0)).portFree = true
      ∧ (committing .fetching [0] (some 0)).fetchRuns = true := by
  unfold Attention.Legal; decide +kernel
theorem wit_PendingCountReadCounts :
    working.portFree = true ∧ working.fetchRuns = false ∧ working.att.Legal
      ∧ State.reset.portFree = true ∧ State.reset.att.Legal := by
  unfold Attention.Legal; decide +kernel
theorem wit_ClassMaskWriteIsTakenWhileMapped :
    cell.portFree = true ∧ cell.fetchRuns = false ∧ cell.pass.mapped = true ∧ (0x7#4) ≠ 0xF#4
      ∧ State.reset.portFree = true ∧ State.reset.pass.mapped = false := by decide +kernel

/-! ### The windows -/

theorem wit_ImageReadsUseTheLatch :
    let s := { cell with pass := { cell.pass with latches := cell.pass.latches.set 0 (some (List.replicate 8 0)) } }
    cell.portFree = true ∧ cell.region 0x101100 = .image 0x100 ∧ blockAt? 0x100 = some (.day 0, 0)
      ∧ cell.region 0x10111C = .image 0x11C ∧ blockAt? 0x11C = some (.day 0, 7) ∧ blockAt? 0x2AC = some (.link, 3)
      ∧ blockAt? 0x250 = some (.slot 5, 0) ∧ cell.pass.latches[(0 : Fin 11)] = none
      ∧ s.portFree = true ∧ s.pass.latches[(0 : Fin 11)] = some (List.replicate 8 0) := by decide +kernel
theorem wit_RecordReadWaitsForQueuedWrites :
    let s := withQueue cell [queued .recordWord, queued .indexWord]
    let held := { s with pass := { s.pass with port := .heldRecord ⟨0x200880, 0xF, none⟩ 1 } }
    s.portFree = true ∧ s.region 0x200000 = .record 0 ∧ (∀ e ∈ s.pass.queue, wordBase e.addr ≠ wordBase 0x200000)
      ∧ s.pass.queue.length < 48 ∧ s.region 0x200880 = .record 0x880
      ∧ s.pass.queue = [queued .recordWord] ++ queued .indexWord :: [] ∧ wordBase (queued .indexWord).addr = wordBase 0x200880
      ∧ held.offers = [] ∧ held.pass.upcoming = [] ∧ held.queueOffered = true ∧ held.pass.waiting = []
      ∧ held.pass.queue.tail.length < 47
      ∧ { held with pass := { held.pass with port := .heldRecord ⟨0x200880, 0xF, none⟩ 2 } }.queueOffered = true := by
  decide +kernel
theorem wit_UnownedWritesAreSuppressed :
    cell.portFree = true ∧ cell.region 0x101000 = .image 0 ∧ cell.region 0x201FFC = .record 0x1FFC
      ∧ byteOf (0x1FFC / 4096) = 1 ∧ cell.region 0x1000A0 = .setpoint 0xA0 ∧ cell.region 0x1000FC = .setpoint 0xFC
      ∧ cell.region 0x100114 = .setpoint 0x114 ∧ cell.region 0x340028 = .command 0x28
      ∧ cell.fetchRuns = false
      ∧ (∀ o ∈ [0x000, 0x004, 0x00C, 0x014, 0x01C], cell.region (mapAddr o) = .mapPage o) := by decide +kernel

/-! ### Commits -/

theorem wit_CommitWriteIsDecidedAtItsTaking :
    cell.portFree = true ∧ cell.fetchRuns = false ∧ cell.maps.stage = .idle ∧ (0x7#4) ≠ 0xF#4
      ∧ (committing .waiting [] (some 1)).portFree = true ∧ (committing .waiting [] (some 1)).maps.stage ≠ .idle
      ∧ (0#32).extractLsb' 0 16 = (0 : BitVec 16) ∧ (7#32).extractLsb' 0 16 = cell.maps.generation
      ∧ (8#32).extractLsb' 0 16 ≠ (0 : BitVec 16) ∧ (8#32).extractLsb' 0 16 ≠ cell.maps.generation
      ∧ cell.pass.queue = [] ∧ (withQueue cell [queued .recordWord]).portFree = true
      ∧ (withQueue cell [queued .recordWord]).maps.stage = .idle := by decide +kernel
theorem wit_FetchFollowsTheBoundary :
    let s := withQueue (committing .waiting [] (some 1)) [queued .recordWord]
    s.portFree = true ∧ s.maps.stage = .waiting ∧ s.pass.boundary = some 1
      ∧ s.pass.queue = queued .recordWord :: []
      ∧ (∀ n ∈ [0, 1022], (committing .fetching (goodPage.take n) (some 0)).offers = []
          ∧ (committing .fetching (goodPage.take n) (some 0)).maps.copy.length + 1 < 1024)
      ∧ (committing .fetching (goodPage.take 1023) (some 0)).portFree = true
      ∧ (committing .fetching (goodPage.take 1023) (some 0)).maps.stage = .fetching
      ∧ (committing .fetching (goodPage.take 1023) (some 0)).maps.copy.length + 1 = 1024 := by decide +kernel
theorem wit_CommitsAreDecidedSwitchedAndStamped :
    (committing .validating [] none).maps.stage = .validating ∧ (committing .validating [] none).refusal = some .window
      ∧ (committing .validating [] none).offers = [] ∧ (committing .validating [] none).hist.occupied = 0
      ∧ (fetchedGood .validating).refusal = none
      ∧ ({ fetchedGood .validating with hist := working.hist }).hist.append = some 17
      ∧ ({ fetchedGood .validating with hist := working.hist }).refusal = none
      ∧ (fetchedGood .validating).maps.stage = .validating ∧ (fetchedGood .validating).hist.append = none
      ∧ (fetchedGood .switching).maps.stage = .switching ∧ (fetchedGood .switching).hist.append = none
      ∧ (fetchedGood .switching).link.restart = false ∧ (fetchedGood .switching).hist.occupied = 0
      ∧ (fetchedGood .switching).offers = [] ∧ (fetchedGood .switching).link.queue = []
      ∧ (withQueue (committing .stamping [] none) [queued .commitStamp]).portFree = true
      ∧ (withQueue (committing .stamping [] none) [queued .commitStamp]).maps.stage = .stamping
      ∧ (queued .commitStamp).purpose = .commitStamp := by decide +kernel

end Sys2Proof.Tests
end

section
/-! Command writes on an IDLE channel, and the head channels' DISCARD CHARGE. A full-word write of a command word that
arrives on an IDLE channel is decided by the channel's owner and passed with the outcome in byte 3 (R152, R176, R177);
what a command does is then what its owner decides. -/

namespace Sys2Proof.Machine

/-! ## Command words -/

theorem wordByte_zero_wordOf (b0 b1 b2 b3 : Byte) : wordByte (wordOf b0 b1 b2 b3) 0 = b0 :=
  BitVec.extractLsb'_append_eq_right

theorem wordByte_one_wordOf (b0 b1 b2 b3 : Byte) : wordByte (wordOf b0 b1 b2 b3) 1 = b1 :=
  (BitVec.extractLsb'_append_eq_of_le (by decide)).trans BitVec.extractLsb'_append_eq_right

theorem wordByte_two_wordOf (b0 b1 b2 b3 : Byte) : wordByte (wordOf b0 b1 b2 b3) 2 = b2 :=
  (BitVec.extractLsb'_append_eq_of_le (by decide)).trans <|
    (BitVec.extractLsb'_append_eq_of_le (by decide)).trans BitVec.extractLsb'_append_eq_right

theorem wordOf_eq_append (b0 b1 b2 b3 : Byte) : wordOf b0 b1 b2 b3 = b3 ++ (b2 ++ b1 ++ b0) := by
  rw [wordOf, BitVec.append_assoc (x₁ := b3), BitVec.cast_eq, BitVec.append_assoc (x₁ := b3), BitVec.cast_eq]

/-- The part's outcome takes the place of byte 3 alone (R152). -/
theorem withOutcome_wordOf (b0 b1 b2 b3 o : Byte) : withOutcome (wordOf b0 b1 b2 b3) o = wordOf b0 b1 b2 o := by
  have low : (wordOf b0 b1 b2 b3).extractLsb' 0 24 = b2 ++ b1 ++ b0 := by
    rw [wordOf_eq_append]
    exact BitVec.extractLsb'_append_eq_right
  rw [withOutcome, low, wordOf_eq_append]

theorem stampOf_commandWord (code : Byte) (w : CommandWrite) (addr : Addr) :
    stampOf (commandWord code w) addr = ⟨code, w.tag, w.argument, addr⟩ := by
  simp only [stampOf, commandWord, wordByte_zero_wordOf, wordByte_one_wordOf, wordByte_two_wordOf]

/-! ## The arrival of a command write -/

theorem State.commandArrives_iff (s : State) (w : CommandWrite) (c : Fin 10) :
    s.commandArrives w c = true ↔
      (s.portIdle = true ∧ s.pass.upcoming = [] ∧ s.offers = []) ∧ w.enables = 0xF#4
        ∧ ∃ o, s.region w.addr = .command o ∧ channelAt? o = some c := by
  unfold State.commandArrives State.portFree
  cases hr : s.region w.addr <;> simp [and_assoc]

/-- A window's word lies below the map page, which the classification tests first (R145). -/
theorem State.wordBase_lt_of_region_command {s : State} {addr : Addr} {o : Nat} (h : s.region addr = .command o) :
    wordBase addr < Config.mapPage := by
  by_contra hge
  simp [State.region, Nat.le_of_not_lt hge] at h

theorem State.channelBusy_of_idle {s : State} {c : Fin 10} (h : s.chans[c].phase = .idle) (code : Byte) :
    s.channelBusy c code = false := by
  rw [State.channelBusy, h]
  rfl

/-- A command write on an IDLE channel claims the port with the owner's outcome in byte 3; the rest of the state is as
the owner leaves it (R152, R176, R177). -/
theorem State.takeAccess_commandAccess {s : State} {w : CommandWrite} {c : Fin 10}
    (harr : s.commandArrives w c = true) (hidle : s.chans[c].phase = .idle) (code : Byte) :
    s.takeAccess (commandAccess code w) =
      let r := s.ownerDecision c ⟨code, w.tag, w.argument, w.addr⟩
      r.2.setPort (.claiming ⟨⟨w.addr, w.enables, some (wordOf code w.tag w.argument r.1)⟩,
        if r.1 = 0x01 then some c else none⟩) .none := by
  obtain ⟨-, hen, o, hreg, hchan⟩ := (s.commandArrives_iff w c).mp harr
  have hbelow := wordBase_lt_of_region_command hreg
  have hhold : s.fetchHolds (commandAccess code w) = false := by
    simp [State.fetchHolds, commandAccess, Nat.not_le.mpr hbelow]
  have hclass : s.classify (commandAccess code w)
      = s.channelWrite (commandAccess code w) c (commandWord code w) := by
    simp [State.classify, commandAccess, hreg, State.commandWrite, hchan, hen]
  rw [State.takeAccess, hhold, hclass, State.channelWrite, channelBusy_of_idle hidle, stampOf_commandWord]
  simp only [commandWord, withOutcome_wordOf, Bool.false_eq_true, if_false]
  rfl

/-! ## The cycle of a passed write -/

/-- A step that leaves no access to present and no report ends in the state it has reached. -/
theorem State.present_nil_done {s : State} (hup : s.pass.upcoming = []) (hoff : s.offers = []) :
    (s.present []).done = .next s := by
  have hpresent : s.present [] = s := by
    rw [State.present, ← hup]
    rfl
  rw [hpresent, State.done, deliver_nil hoff]

/-- Only a queue of 48 entries or more keeps the host side from its cycle (R155). -/
theorem State.starvation_le_of_not_hostGranted {s : State} (h : s.hostGranted = false) :
    Config.starvation ≤ s.pass.queue.length := by
  simp only [State.hostGranted, Bool.not_eq_false', Bool.and_eq_true, decide_eq_true_eq] at h
  exact h.2

/-- The arbiter gives a claiming write its cycle at once, or leaves it to wait for the part side (R143, R155). -/
theorem State.arbitrate_claimedWrite (s : State) (a : Access) (data : Word) (ha : a.data = some data) :
    (s.setPort (.claiming ⟨a, none⟩) .none).arbitrate =
      if s.hostGranted then (s.setMem (writeWord s.mem (wordBase a.addr) a.enables data)).setPort .idle .wrote
      else s.setPort (.claiming ⟨a, none⟩) .none := by
  have hgrant : (s.setPort (.claiming ⟨a, none⟩) .none).hostGranted = s.hostGranted := rfl
  have hcycle : (s.setPort (.claiming ⟨a, none⟩) .none).memoryCycle a
      = (s.setMem (writeWord s.mem (wordBase a.addr) a.enables data)).setPort .idle .wrote := by
    rw [State.memoryCycle, ha]
    rfl
  rw [← hgrant, ← hcycle]
  rfl

/-- A write that claims the port with no access behind it and no report left changes the host port and memory alone,
and the injection queue stays as it was (R143, R155). -/
theorem State.claimedWrite_ends {s : State} (hup : s.pass.upcoming = []) (hoff : s.offers = []) (addr : Addr)
    (enables : Enables) (data : Word) :
    ∃ t, ((s.setPort (.claiming ⟨⟨addr, enables, some data⟩, none⟩) .none).arbitrate.present []).done = .next t
      ∧ t = { s with pass := t.pass, mem := t.mem } ∧ t.wordPassed s addr enables data ∧ t.queueKept s := by
  rw [arbitrate_claimedWrite s _ data rfl]
  cases hgrant : s.hostGranted with
  | true => exact ⟨_, present_nil_done hup hoff, rfl, ⟨.inl ⟨rfl, rfl, rfl⟩, rfl⟩, rfl, rfl⟩
  | false =>
    have hfull := starvation_le_of_not_hostGranted hgrant
    exact ⟨_, present_nil_done hup hoff, rfl, ⟨.inr ⟨hfull, rfl, none, rfl⟩, rfl⟩, rfl, rfl⟩

/-- A command that its owner settles at once: the step answers the state the owner leaves, with the command word passed
under the owner's outcome and the injection queue as it was (R152, R176, R177). -/
theorem State.commandAccess_settles {s s' : State} {w : CommandWrite} {c : Fin 10} {code outcome : Byte}
    (harr : s.commandArrives w c = true) (hidle : s.chans[c].phase = .idle)
    (hdec : s.ownerDecision c ⟨code, w.tag, w.argument, w.addr⟩ = (outcome, s')) (hout : outcome ≠ 0x01)
    (hpass : s'.pass = s.pass) (hmem : s'.mem = s.mem) (hoff : s'.offers = s.offers) :
    ∃ t, (s.hostAccess (commandAccess code w)).done = .next t ∧ t = { s' with pass := t.pass, mem := t.mem }
      ∧ t.wordPassed s w.addr w.enables (wordOf code w.tag w.argument outcome) ∧ t.queueKept s := by
  obtain ⟨⟨hport, hup, hoffers⟩, -⟩ := (s.commandArrives_iff w c).mp harr
  have htake := takeAccess_commandAccess harr hidle code
  simp only [hdec, hout, if_false] at htake
  rw [hostAccess_idle _ hport hup hoffers, htake]
  obtain ⟨t, hnext, hframe, hword, hqueue⟩ := claimedWrite_ends (s := s') (hpass ▸ hup) (hoff ▸ hoffers) w.addr
    w.enables (wordOf code w.tag w.argument outcome)
  refine ⟨t, hnext, hframe, ?_, ?_⟩
  · simpa only [State.wordPassed, State.cycleEnded, hpass, hmem] using hword
  · simpa only [State.queueKept, hpass] using hqueue

/-! ## DISCARD CHARGE (R78, R86) -/

theorem channelOwner_headChannel (h : Fin 4) : channelOwner (headChannel h) = .head h := by
  simp [channelOwner, headChannel, show 4 + h.val < 8 by omega]

/-- DISCARD CHARGE is decided by its argument alone, on whichever head channel it arrives. -/
theorem State.ownerDecision_discardCharge (s : State) (h : Fin 4) (tag argument : Byte) (addr : Addr) :
    s.ownerDecision (headChannel h) ⟨codeDiscardCharge, tag, argument, addr⟩ = s.discardCharge argument.toNat := by
  rw [State.ownerDecision, channelOwner_headChannel]
  rfl

theorem State.discardCharge_of_five_lt {s : State} {n : Nat} (h : 5 < n) : s.discardCharge n = (0x41, s) :=
  dif_neg (by omega)

theorem State.discardCharge_of_free {s : State} {i : Fin 6} (h : s.weigh.charges[i].state = .free) :
    s.discardCharge i.val = (0x42, s) := by
  rw [State.discardCharge, dif_pos i.isLt]
  exact if_pos h

theorem State.discardCharge_of_ne_free {s : State} {i : Fin 6} (h : s.weigh.charges[i].state ≠ .free) :
    s.discardCharge i.val = (0x02, s.freeCharge i) := by
  rw [State.discardCharge, dif_pos i.isLt]
  exact if_neg h

theorem State.freeCharge_heads (s : State) (i : Fin 6) (k : Fin 4) :
    (s.freeCharge i).weigh.heads[k] =
      if s.weigh.heads[k].held = some i then { s.weigh.heads[k] with held := none } else s.weigh.heads[k] := by
  simp [State.freeCharge]

/-- Settles O38: the owner's decision in each of the three cases, and what freeing a slot leaves of the Weigh
Channel. -/
theorem discardChargeFreesTheSlot : Obligations.DiscardChargeFreesTheSlot := by
  intro s w h harr hidle
  have hdec := s.ownerDecision_discardCharge h w.tag w.argument w.addr
  refine ⟨fun hbad => ?_, fun i harg hfree => ?_, fun i harg hused => ?_⟩
  · rw [State.discardCharge_of_five_lt hbad] at hdec
    exact State.commandAccess_settles harr hidle hdec (by decide) rfl rfl rfl
  · rw [harg, State.discardCharge_of_free hfree] at hdec
    exact State.commandAccess_settles harr hidle hdec (by decide) rfl rfl rfl
  · rw [harg, State.discardCharge_of_ne_free hused] at hdec
    obtain ⟨t, hexec, hframe, hword, hqueue⟩ :=
      State.commandAccess_settles harr hidle hdec (by decide) rfl rfl rfl
    have hweigh : t.weigh = (s.freeCharge i).weigh := by rw [hframe]
    refine ⟨t, hexec, ?_, hword, hqueue, ?_, ?_, fun k => ?_⟩
    · rw [hweigh]; exact hframe
    · rw [hweigh]; rfl
    · rw [hweigh]; rfl
    · rw [hweigh]; exact s.freeCharge_heads i k

end Sys2Proof.Machine
end

section
/-! SET LINE on the lines channel (R96). -/

namespace Sys2Proof.Machine

theorem channelOwner_linesChannel : channelOwner linesChannel = .lines := rfl

/-- SET LINE is decided by its argument alone: bits 6:0 name the line, bit 7 the level. -/
theorem State.ownerDecision_setLine (s : State) (tag argument : Byte) (addr : Addr) :
    s.ownerDecision linesChannel ⟨codeSetLine, tag, argument, addr⟩ = s.setLineDecision argument := by
  rw [State.ownerDecision, channelOwner_linesChannel]
  rfl

theorem State.ownerDecision_lines_of_ne {stamp : Stamp} (h : stamp.code ≠ codeSetLine) (s : State) :
    s.ownerDecision linesChannel stamp = (0x40, s) := by
  rw [State.ownerDecision, channelOwner_linesChannel]
  exact if_neg h

theorem State.setLineDecision_of_le {argument : Byte} (h : 32 ≤ (argument.extractLsb' 0 7).toNat) (s : State) :
    s.setLineDecision argument = (0x41, s) :=
  dif_neg (Nat.not_lt.mpr h)

theorem State.setLineDecision_of_not_output {s : State} {argument : Byte} {n : Fin 32}
    (hn : (argument.extractLsb' 0 7).toNat = n.val) (hmode : s.cell.lines[n].mode ≠ 2) :
    s.setLineDecision argument = (0x4C, s) := by
  simp only [State.setLineDecision, hn, n.isLt, dif_pos]
  exact if_pos hmode

theorem State.setLineDecision_of_output {s : State} {argument : Byte} {n : Fin 32}
    (hn : (argument.extractLsb' 0 7).toNat = n.val) (hmode : s.cell.lines[n].mode = 2) :
    s.setLineDecision argument = (0x02, s.setLine n { s.lines[n] with latch := argument.getLsbD 7 }) := by
  simp only [State.setLineDecision, hn, n.isLt, dif_pos, BitVec.msb_eq_getLsbD_last]
  exact if_neg (not_not.mpr hmode)

/-- The pin of an OUTPUT line carries its latch through its polarity (R95). -/
theorem State.pinDrive_of_output {s : State} {n : Fin 32} (hmode : s.cell.lines[n].mode = 2) :
    s.pinDrive n = some (s.lines[n].latch != (s.cell.lines[n].polarity == 1)) := by
  rw [State.pinDrive, State.drive, if_pos hmode]
  rfl

/-- Settles O35: the lines channel's decision in each of the four cases, and the pin read from the latch that the third
leaves. -/
theorem setLineDrivesTheLatch : Obligations.SetLineDrivesTheLatch := by
  intro s w harr hidle
  have hdec := s.ownerDecision_setLine w.tag w.argument w.addr
  refine ⟨fun hbad => ?_, fun n hn hmode => ?_, fun n hn hmode => ?_, fun code hcode => ?_⟩
  · rw [State.setLineDecision_of_le hbad] at hdec
    exact State.commandAccess_settles harr hidle hdec (by decide) rfl rfl rfl
  · rw [State.setLineDecision_of_not_output hn hmode] at hdec
    exact State.commandAccess_settles harr hidle hdec (by decide) rfl rfl rfl
  · rw [State.setLineDecision_of_output hn hmode] at hdec
    obtain ⟨t, hexec, hframe, hword, hqueue⟩ :=
      State.commandAccess_settles harr hidle hdec (by decide) rfl rfl rfl
    have hcell : t.cell = s.cell := by rw [hframe]; rfl
    have hlines : t.lines = s.lines.set n { s.lines[n] with latch := w.argument.getLsbD 7 } := by rw [hframe]; rfl
    refine ⟨t, hexec, ?_, hlines, ?_, hword, hqueue⟩
    · rw [hlines]; exact hframe
    · rw [State.pinDrive_of_output (by rwa [hcell]), hcell, hlines]
      simp
  · have hunknown := State.ownerDecision_lines_of_ne (stamp := ⟨code, w.tag, w.argument, w.addr⟩) hcode s
    obtain ⟨t, hexec, hframe, hword, -⟩ :=
      State.commandAccess_settles harr hidle hunknown (by decide) rfl rfl rfl
    exact ⟨t, hexec, hframe, hword⟩

end Sys2Proof.Machine
end

section
/-! The pending-count word (R139). An access that the part answers itself, with no memory cycle and no effect on any
unit, leaves the reply on a free port and nothing else. -/

namespace Sys2Proof.Machine

/-! ## The map page (R145) -/

/-- An offset of the map page that is a word's names that word of the page, whatever windows are mapped. -/
theorem State.region_mapAddr (s : State) {o : Nat} (hpage : o < 0x1000) (hword : o % 4 = 0) :
    s.region (mapAddr o) = .mapPage o := by
  have hbase : wordBase (mapAddr o) = Config.mapPage + o := by
    simp only [wordBase, mapAddr, Config.mapPage, BitVec.toNat_ofNat]
    omega
  rw [State.region, hbase]
  simp

/-! ## Accesses with no memory cycle (R143) -/

theorem State.portFree_iff (s : State) :
    s.portFree = true ↔ s.pass.port = .idle ∧ s.pass.upcoming = [] ∧ s.offers = [] := by
  simp [State.portFree, State.portIdle, and_assoc]

/-- On a port that is already idle, an answer replaces the reply alone. -/
theorem State.setPort_idle {s : State} (h : s.pass.port = .idle) (r : Reply) :
    s.setPort .idle r = { s with pass := { s.pass with reply := r } } := by
  rw [State.setPort, State.setPass, ← h]

/-- An access that is not held by a fetch, that its owner takes with no effect of its own and that ends at its taking:
the step leaves its reply and changes nothing else. -/
theorem State.hostAccess_answered {s : State} {a : Access} {d : Disposition} {r : Reply} (hfree : s.portFree = true)
    (hfetch : s.fetchRuns = false) (hclass : s.classify a = (d, s)) (hends : s.dispose a d = s.setPort .idle r) :
    (s.hostAccess a).done = .next { s with pass := { s.pass with reply := r } } := by
  obtain ⟨hport, hup, hoffers⟩ := s.portFree_iff.mp hfree
  have htake : s.takeAccess a = s.setPort .idle r := by
    rw [State.takeAccess, State.fetchHolds, hfetch, hclass]
    exact hends
  have harb : (s.setPort .idle r).arbitrate = s.setPort .idle r := rfl
  rw [hostAccess_idle a (by simp [State.portIdle, hport]) hup hoffers, htake, harb, setPort_idle hport]
  exact present_nil_done hup hoffers

/-! ## The pending-count word (R139) -/

theorem State.classify_pendingCount_read (s : State) :
    s.classify (readAccess (mapAddr 0x00C)) = (.served s.att.countWord, s) := by
  rw [State.classify, readAccess, s.region_mapAddr (by decide) (by decide)]
  rfl

theorem State.classify_pendingCount_write (s : State) (enables : Enables) (data : Word) :
    s.classify (writeAccess (mapAddr 0x00C) enables data) = (.suppressed, s) := by
  rw [State.classify, writeAccess, s.region_mapAddr (by decide) (by decide)]
  rfl

theorem wordByte_three_wordOf (b0 b1 b2 b3 : Byte) : wordByte (wordOf b0 b1 b2 b3) 3 = b3 := by
  rw [wordOf_eq_append]
  exact BitVec.extractLsb'_append_eq_left

theorem byteOf_toNat {n : Nat} (h : n < 256) : (byteOf n).toNat = n := Nat.mod_eq_of_lt h

theorem Attention.ready_length_le (a : Attention) : a.ready.length ≤ a.set.length := List.length_filter_le ..

/-- The bytes of the count word; the bound of the legal set (R131) keeps each count from wrapping in its byte. -/
theorem Attention.countWord_bytes {a : Attention} (h : a.set.length ≤ Config.pendingCap) :
    (wordByte a.countWord 0).toNat = a.set.length ∧ (wordByte a.countWord 1).toNat = a.ready.length
      ∧ wordByte a.countWord 2 = 0 ∧ wordByte a.countWord 3 = 0 := by
  have hset : a.set.length < 256 := h.trans_lt (by decide)
  refine ⟨?_, ?_, wordByte_two_wordOf .., wordByte_three_wordOf ..⟩
  · rw [Attention.countWord, wordByte_zero_wordOf, byteOf_toNat hset]
  · rw [Attention.countWord, wordByte_one_wordOf, byteOf_toNat (a.ready_length_le.trans_lt hset)]

/-- Settles O53: the word is served by the part and a write to it ends at its taking, whether or not windows are
mapped. -/
theorem pendingCountReadCounts : Obligations.PendingCountReadCounts := by
  intro s hfree hfetch hlegal
  obtain ⟨hcap, -⟩ := hlegal
  obtain ⟨hcount, hready, htwo, hthree⟩ := Attention.countWord_bytes hcap
  refine ⟨⟨s.att.countWord, ?_, hcount, hcap, hready, htwo, hthree⟩, fun enables data => ?_⟩
  · exact State.hostAccess_answered hfree hfetch s.classify_pendingCount_read rfl
  · exact State.hostAccess_answered hfree hfetch (s.classify_pendingCount_write enables data) rfl

end Sys2Proof.Machine
end

section
/-! What the shared operations leave alone, field by field: consequences of the lemmas that say what each can do, in the
form `simp` uses. -/

namespace Sys2Proof.Machine

/-- Two states with the same fields are the same. -/
theorem State.ext_fields {s t : State} (time : s.time = t.time) (link : s.link = t.link) (zones : s.zones = t.zones)
    (days : s.days = t.days) (seqs : s.seqs = t.seqs) (weigh : s.weigh = t.weigh) (lines : s.lines = t.lines)
    (hist : s.hist = t.hist) (att : s.att = t.att) (pass : s.pass = t.pass) (maps : s.maps = t.maps)
    (chans : s.chans = t.chans) (mem : s.mem = t.mem) (offers : s.offers = t.offers) (choice : s.choice = t.choice)
    (pending : s.pending = t.pending) : s = t := by
  cases s
  cases t
  simp_all

/-! ## Completions -/

@[simp] theorem State.finish_time (s : State) (c : Fin 10) (code : Byte) : (s.finish c code).time = s.time := by
  obtain ⟨ch, h⟩ := s.finish_spec c code; rw [h]; rfl
@[simp] theorem State.finish_link (s : State) (c : Fin 10) (code : Byte) : (s.finish c code).link = s.link := by
  obtain ⟨ch, h⟩ := s.finish_spec c code; rw [h]; rfl
@[simp] theorem State.finish_zones (s : State) (c : Fin 10) (code : Byte) : (s.finish c code).zones = s.zones := by
  obtain ⟨ch, h⟩ := s.finish_spec c code; rw [h]; rfl
@[simp] theorem State.finish_days (s : State) (c : Fin 10) (code : Byte) : (s.finish c code).days = s.days := by
  obtain ⟨ch, h⟩ := s.finish_spec c code; rw [h]; rfl
@[simp] theorem State.finish_seqs (s : State) (c : Fin 10) (code : Byte) : (s.finish c code).seqs = s.seqs := by
  obtain ⟨ch, h⟩ := s.finish_spec c code; rw [h]; rfl
@[simp] theorem State.finish_weigh (s : State) (c : Fin 10) (code : Byte) : (s.finish c code).weigh = s.weigh := by
  obtain ⟨ch, h⟩ := s.finish_spec c code; rw [h]; rfl
@[simp] theorem State.finish_lines (s : State) (c : Fin 10) (code : Byte) : (s.finish c code).lines = s.lines := by
  obtain ⟨ch, h⟩ := s.finish_spec c code; rw [h]; rfl
@[simp] theorem State.finish_hist (s : State) (c : Fin 10) (code : Byte) : (s.finish c code).hist = s.hist := by
  obtain ⟨ch, h⟩ := s.finish_spec c code; rw [h]; rfl
@[simp] theorem State.finish_att (s : State) (c : Fin 10) (code : Byte) : (s.finish c code).att = s.att := by
  obtain ⟨ch, h⟩ := s.finish_spec c code; rw [h]; rfl
@[simp] theorem State.finish_pass (s : State) (c : Fin 10) (code : Byte) : (s.finish c code).pass = s.pass := by
  obtain ⟨ch, h⟩ := s.finish_spec c code; rw [h]; rfl
@[simp] theorem State.finish_maps (s : State) (c : Fin 10) (code : Byte) : (s.finish c code).maps = s.maps := by
  obtain ⟨ch, h⟩ := s.finish_spec c code; rw [h]; rfl
@[simp] theorem State.finish_mem (s : State) (c : Fin 10) (code : Byte) : (s.finish c code).mem = s.mem := by
  obtain ⟨ch, h⟩ := s.finish_spec c code; rw [h]; rfl
@[simp] theorem State.finish_offers (s : State) (c : Fin 10) (code : Byte) : (s.finish c code).offers = s.offers := by
  obtain ⟨ch, h⟩ := s.finish_spec c code; rw [h]; rfl
@[simp] theorem State.finish_choice (s : State) (c : Fin 10) (code : Byte) : (s.finish c code).choice = s.choice := by
  obtain ⟨ch, h⟩ := s.finish_spec c code; rw [h]; rfl
@[simp] theorem State.finish_pending (s : State) (c : Fin 10) (code : Byte) :
    (s.finish c code).pending = s.pending := by
  obtain ⟨ch, h⟩ := s.finish_spec c code; rw [h]; rfl

@[simp] theorem State.placeStamp_time (s : State) (c : Fin 10) : (s.placeStamp c).time = s.time := by
  obtain ⟨ch, q, w, h⟩ := s.placeStamp_spec c; rw [h]; rfl
@[simp] theorem State.placeStamp_link (s : State) (c : Fin 10) : (s.placeStamp c).link = s.link := by
  obtain ⟨ch, q, w, h⟩ := s.placeStamp_spec c; rw [h]; rfl
@[simp] theorem State.placeStamp_zones (s : State) (c : Fin 10) : (s.placeStamp c).zones = s.zones := by
  obtain ⟨ch, q, w, h⟩ := s.placeStamp_spec c; rw [h]; rfl
@[simp] theorem State.placeStamp_days (s : State) (c : Fin 10) : (s.placeStamp c).days = s.days := by
  obtain ⟨ch, q, w, h⟩ := s.placeStamp_spec c; rw [h]; rfl
@[simp] theorem State.placeStamp_seqs (s : State) (c : Fin 10) : (s.placeStamp c).seqs = s.seqs := by
  obtain ⟨ch, q, w, h⟩ := s.placeStamp_spec c; rw [h]; rfl
@[simp] theorem State.placeStamp_weigh (s : State) (c : Fin 10) : (s.placeStamp c).weigh = s.weigh := by
  obtain ⟨ch, q, w, h⟩ := s.placeStamp_spec c; rw [h]; rfl
@[simp] theorem State.placeStamp_lines (s : State) (c : Fin 10) : (s.placeStamp c).lines = s.lines := by
  obtain ⟨ch, q, w, h⟩ := s.placeStamp_spec c; rw [h]; rfl
@[simp] theorem State.placeStamp_hist (s : State) (c : Fin 10) : (s.placeStamp c).hist = s.hist := by
  obtain ⟨ch, q, w, h⟩ := s.placeStamp_spec c; rw [h]; rfl
@[simp] theorem State.placeStamp_att (s : State) (c : Fin 10) : (s.placeStamp c).att = s.att := by
  obtain ⟨ch, q, w, h⟩ := s.placeStamp_spec c; rw [h]; rfl
@[simp] theorem State.placeStamp_maps (s : State) (c : Fin 10) : (s.placeStamp c).maps = s.maps := by
  obtain ⟨ch, q, w, h⟩ := s.placeStamp_spec c; rw [h]; rfl
@[simp] theorem State.placeStamp_mem (s : State) (c : Fin 10) : (s.placeStamp c).mem = s.mem := by
  obtain ⟨ch, q, w, h⟩ := s.placeStamp_spec c; rw [h]; rfl
@[simp] theorem State.placeStamp_offers (s : State) (c : Fin 10) : (s.placeStamp c).offers = s.offers := by
  obtain ⟨ch, q, w, h⟩ := s.placeStamp_spec c; rw [h]; rfl
@[simp] theorem State.placeStamp_choice (s : State) (c : Fin 10) : (s.placeStamp c).choice = s.choice := by
  obtain ⟨ch, q, w, h⟩ := s.placeStamp_spec c; rw [h]; rfl
@[simp] theorem State.placeStamp_pending (s : State) (c : Fin 10) : (s.placeStamp c).pending = s.pending := by
  obtain ⟨ch, q, w, h⟩ := s.placeStamp_spec c; rw [h]; rfl

@[simp] theorem State.complete_time (s : State) (c : Fin 10) (code : Byte) : (s.complete c code).time = s.time := by
  rw [State.complete]; simp
@[simp] theorem State.complete_link (s : State) (c : Fin 10) (code : Byte) : (s.complete c code).link = s.link := by
  rw [State.complete]; simp
@[simp] theorem State.complete_zones (s : State) (c : Fin 10) (code : Byte) : (s.complete c code).zones = s.zones := by
  rw [State.complete]; simp
@[simp] theorem State.complete_days (s : State) (c : Fin 10) (code : Byte) : (s.complete c code).days = s.days := by
  rw [State.complete]; simp
@[simp] theorem State.complete_seqs (s : State) (c : Fin 10) (code : Byte) : (s.complete c code).seqs = s.seqs := by
  rw [State.complete]; simp
@[simp] theorem State.complete_weigh (s : State) (c : Fin 10) (code : Byte) : (s.complete c code).weigh = s.weigh := by
  rw [State.complete]; simp
@[simp] theorem State.complete_lines (s : State) (c : Fin 10) (code : Byte) : (s.complete c code).lines = s.lines := by
  rw [State.complete]; simp
@[simp] theorem State.complete_hist (s : State) (c : Fin 10) (code : Byte) : (s.complete c code).hist = s.hist := by
  rw [State.complete]; simp
@[simp] theorem State.complete_att (s : State) (c : Fin 10) (code : Byte) : (s.complete c code).att = s.att := by
  rw [State.complete]; simp
@[simp] theorem State.complete_maps (s : State) (c : Fin 10) (code : Byte) : (s.complete c code).maps = s.maps := by
  rw [State.complete]; simp
@[simp] theorem State.complete_mem (s : State) (c : Fin 10) (code : Byte) : (s.complete c code).mem = s.mem := by
  rw [State.complete]; simp
@[simp] theorem State.complete_offers (s : State) (c : Fin 10) (code : Byte) :
    (s.complete c code).offers = s.offers := by
  rw [State.complete]; simp
@[simp] theorem State.complete_choice (s : State) (c : Fin 10) (code : Byte) :
    (s.complete c code).choice = s.choice := by
  rw [State.complete]; simp
@[simp] theorem State.complete_pending (s : State) (c : Fin 10) (code : Byte) :
    (s.complete c code).pending = s.pending := by
  rw [State.complete]; simp

/-! ## The appender and the close -/

@[simp] theorem State.appendTest_time (s : State) : (s.appendTest).time = s.time := by
  obtain ⟨x, f, q, w, o, h⟩ := s.appendTest_spec; rw [h]; rfl
@[simp] theorem State.appendTest_link (s : State) : (s.appendTest).link = s.link := by
  obtain ⟨x, f, q, w, o, h⟩ := s.appendTest_spec; rw [h]; rfl
@[simp] theorem State.appendTest_zones (s : State) : (s.appendTest).zones = s.zones := by
  obtain ⟨x, f, q, w, o, h⟩ := s.appendTest_spec; rw [h]; rfl
@[simp] theorem State.appendTest_days (s : State) : (s.appendTest).days = s.days := by
  obtain ⟨x, f, q, w, o, h⟩ := s.appendTest_spec; rw [h]; rfl
@[simp] theorem State.appendTest_seqs (s : State) : (s.appendTest).seqs = s.seqs := by
  obtain ⟨x, f, q, w, o, h⟩ := s.appendTest_spec; rw [h]; rfl
@[simp] theorem State.appendTest_weigh (s : State) : (s.appendTest).weigh = s.weigh := by
  obtain ⟨x, f, q, w, o, h⟩ := s.appendTest_spec; rw [h]; rfl
@[simp] theorem State.appendTest_lines (s : State) : (s.appendTest).lines = s.lines := by
  obtain ⟨x, f, q, w, o, h⟩ := s.appendTest_spec; rw [h]; rfl
@[simp] theorem State.appendTest_att (s : State) : (s.appendTest).att = s.att := by
  obtain ⟨x, f, q, w, o, h⟩ := s.appendTest_spec; rw [h]; rfl
@[simp] theorem State.appendTest_maps (s : State) : (s.appendTest).maps = s.maps := by
  obtain ⟨x, f, q, w, o, h⟩ := s.appendTest_spec; rw [h]; rfl
@[simp] theorem State.appendTest_chans (s : State) : (s.appendTest).chans = s.chans := by
  obtain ⟨x, f, q, w, o, h⟩ := s.appendTest_spec; rw [h]; rfl
@[simp] theorem State.appendTest_mem (s : State) : (s.appendTest).mem = s.mem := by
  obtain ⟨x, f, q, w, o, h⟩ := s.appendTest_spec; rw [h]; rfl
@[simp] theorem State.appendTest_choice (s : State) : (s.appendTest).choice = s.choice := by
  obtain ⟨x, f, q, w, o, h⟩ := s.appendTest_spec; rw [h]; rfl
@[simp] theorem State.appendTest_pending (s : State) : (s.appendTest).pending = s.pending := by
  obtain ⟨x, f, q, w, o, h⟩ := s.appendTest_spec; rw [h]; rfl

@[simp] theorem State.appendTest_hist_backlog (s : State) : s.appendTest.hist.backlog = s.hist.backlog := by
  obtain ⟨x, f, q, w, o, h⟩ := s.appendTest_spec; rw [h]; rfl
@[simp] theorem State.appendTest_hist_fill (s : State) : s.appendTest.hist.fill = s.hist.fill := by
  obtain ⟨x, f, q, w, o, h⟩ := s.appendTest_spec; rw [h]; rfl
@[simp] theorem State.appendTest_hist_oldest (s : State) : s.appendTest.hist.oldest = s.hist.oldest := by
  obtain ⟨x, f, q, w, o, h⟩ := s.appendTest_spec; rw [h]; rfl
@[simp] theorem State.appendTest_hist_occupied (s : State) : s.appendTest.hist.occupied = s.hist.occupied := by
  obtain ⟨x, f, q, w, o, h⟩ := s.appendTest_spec; rw [h]; rfl
@[simp] theorem State.appendTest_hist_reserved (s : State) : s.appendTest.hist.reserved = s.hist.reserved := by
  obtain ⟨x, f, q, w, o, h⟩ := s.appendTest_spec; rw [h]; rfl
@[simp] theorem State.appendTest_hist_ring (s : State) : s.appendTest.hist.ring = s.hist.ring := by
  obtain ⟨x, f, q, w, o, h⟩ := s.appendTest_spec; rw [h]; rfl
@[simp] theorem State.appendTest_hist_write (s : State) : s.appendTest.hist.write = s.hist.write := by
  obtain ⟨x, f, q, w, o, h⟩ := s.appendTest_spec; rw [h]; rfl
@[simp] theorem State.appendTest_hist_counter (s : State) : s.appendTest.hist.counter = s.hist.counter := by
  obtain ⟨x, f, q, w, o, h⟩ := s.appendTest_spec; rw [h]; rfl

@[simp] theorem State.closeRecord_time (s : State) (d : Fin 4) (o : RecordOutcome) :
    (s.closeRecord d o).time = s.time := by
  obtain ⟨h, x, q, w, r, e⟩ := s.closeRecord_spec d o; rw [e]; rfl
@[simp] theorem State.closeRecord_link (s : State) (d : Fin 4) (o : RecordOutcome) :
    (s.closeRecord d o).link = s.link := by
  obtain ⟨h, x, q, w, r, e⟩ := s.closeRecord_spec d o; rw [e]; rfl
@[simp] theorem State.closeRecord_zones (s : State) (d : Fin 4) (o : RecordOutcome) :
    (s.closeRecord d o).zones = s.zones := by
  obtain ⟨h, x, q, w, r, e⟩ := s.closeRecord_spec d o; rw [e]; rfl
@[simp] theorem State.closeRecord_seqs (s : State) (d : Fin 4) (o : RecordOutcome) :
    (s.closeRecord d o).seqs = s.seqs := by
  obtain ⟨h, x, q, w, r, e⟩ := s.closeRecord_spec d o; rw [e]; rfl
@[simp] theorem State.closeRecord_weigh (s : State) (d : Fin 4) (o : RecordOutcome) :
    (s.closeRecord d o).weigh = s.weigh := by
  obtain ⟨h, x, q, w, r, e⟩ := s.closeRecord_spec d o; rw [e]; rfl
@[simp] theorem State.closeRecord_lines (s : State) (d : Fin 4) (o : RecordOutcome) :
    (s.closeRecord d o).lines = s.lines := by
  obtain ⟨h, x, q, w, r, e⟩ := s.closeRecord_spec d o; rw [e]; rfl
@[simp] theorem State.closeRecord_att (s : State) (d : Fin 4) (o : RecordOutcome) :
    (s.closeRecord d o).att = s.att := by
  obtain ⟨h, x, q, w, r, e⟩ := s.closeRecord_spec d o; rw [e]; rfl
@[simp] theorem State.closeRecord_maps (s : State) (d : Fin 4) (o : RecordOutcome) :
    (s.closeRecord d o).maps = s.maps := by
  obtain ⟨h, x, q, w, r, e⟩ := s.closeRecord_spec d o; rw [e]; rfl
@[simp] theorem State.closeRecord_chans (s : State) (d : Fin 4) (o : RecordOutcome) :
    (s.closeRecord d o).chans = s.chans := by
  obtain ⟨h, x, q, w, r, e⟩ := s.closeRecord_spec d o; rw [e]; rfl
@[simp] theorem State.closeRecord_mem (s : State) (d : Fin 4) (o : RecordOutcome) :
    (s.closeRecord d o).mem = s.mem := by
  obtain ⟨h, x, q, w, r, e⟩ := s.closeRecord_spec d o; rw [e]; rfl
@[simp] theorem State.closeRecord_choice (s : State) (d : Fin 4) (o : RecordOutcome) :
    (s.closeRecord d o).choice = s.choice := by
  obtain ⟨h, x, q, w, r, e⟩ := s.closeRecord_spec d o; rw [e]; rfl
@[simp] theorem State.closeRecord_pending (s : State) (d : Fin 4) (o : RecordOutcome) :
    (s.closeRecord d o).pending = s.pending := by
  obtain ⟨h, x, q, w, r, e⟩ := s.closeRecord_spec d o; rw [e]; rfl

/-! ## The link -/

@[simp] theorem State.takeLink_time (s : State) (x : LinkStep) : (s.takeLink x).time = s.time := by
  unfold State.takeLink; cases x.completion <;> simp
@[simp] theorem State.takeLink_zones (s : State) (x : LinkStep) : (s.takeLink x).zones = s.zones := by
  unfold State.takeLink; cases x.completion <;> simp
@[simp] theorem State.takeLink_days (s : State) (x : LinkStep) : (s.takeLink x).days = s.days := by
  unfold State.takeLink; cases x.completion <;> simp
@[simp] theorem State.takeLink_seqs (s : State) (x : LinkStep) : (s.takeLink x).seqs = s.seqs := by
  unfold State.takeLink; cases x.completion <;> simp
@[simp] theorem State.takeLink_weigh (s : State) (x : LinkStep) : (s.takeLink x).weigh = s.weigh := by
  unfold State.takeLink; cases x.completion <;> simp
@[simp] theorem State.takeLink_lines (s : State) (x : LinkStep) : (s.takeLink x).lines = s.lines := by
  unfold State.takeLink; cases x.completion <;> simp
@[simp] theorem State.takeLink_hist (s : State) (x : LinkStep) : (s.takeLink x).hist = s.hist := by
  unfold State.takeLink; cases x.completion <;> simp
@[simp] theorem State.takeLink_att (s : State) (x : LinkStep) : (s.takeLink x).att = s.att := by
  unfold State.takeLink; cases x.completion <;> simp
@[simp] theorem State.takeLink_maps (s : State) (x : LinkStep) : (s.takeLink x).maps = s.maps := by
  unfold State.takeLink; cases x.completion <;> simp
@[simp] theorem State.takeLink_mem (s : State) (x : LinkStep) : (s.takeLink x).mem = s.mem := by
  unfold State.takeLink; cases x.completion <;> simp
@[simp] theorem State.takeLink_choice (s : State) (x : LinkStep) : (s.takeLink x).choice = s.choice := by
  unfold State.takeLink; cases x.completion <;> simp
@[simp] theorem State.takeLink_pending (s : State) (x : LinkStep) : (s.takeLink x).pending = s.pending := by
  unfold State.takeLink; cases x.completion <;> simp

@[simp] theorem State.takeLink_link (s : State) (x : LinkStep) : (s.takeLink x).link = x.link := by
  unfold State.takeLink; cases x.completion <;> simp
@[simp] theorem State.takeLink_offers (s : State) (x : LinkStep) : (s.takeLink x).offers = s.offers ++ x.reports := by
  unfold State.takeLink; cases x.completion <;> simp

end Sys2Proof.Machine
end

section
/-! What every operation keeps: the legal parts of the state (R77, R99, R114, R120, R131, R154, R178) as one relation
between the state before an operation and the state after it. The relation composes, so that a step keeps what each of
its operations keeps. -/

namespace Sys2Proof.Machine

/-! ## The legal parts -/

/-- An operation from `s` to `t` leaves the queue of commands alone and keeps every legal part that belongs to one unit:
memory, the injection queue, the pending set, the charges, the append and the channel records. -/
structure Keeps (s t : State) : Prop where
  pending : t.pending = s.pending
  mem : Memory.wf s.mem = true → Memory.wf t.mem = true
  queue : s.pass.QueueLegal → t.pass.QueueLegal
  att : s.att.Legal → t.att.Legal
  charges : s.weigh.ChargesLegal → t.weigh.ChargesLegal
  append : s.hist.AppendLegal → t.hist.AppendLegal
  chans : (∀ c : Fin 10, s.chans[c].Legal) → ∀ c : Fin 10, t.chans[c].Legal

/-- An operation that puts no new map into effect: it also keeps the map, the backlog and the ejector law. -/
structure Steady (s t : State) : Prop extends Keeps s t where
  map : t.maps.map = s.maps.map
  backlog : s.BacklogLegal → t.BacklogLegal
  eject : s.EjectLaw → t.EjectLaw

/-- What a whole step keeps: the ejector law only while the map in effect stays (R99, R108). -/
structure StepKeeps (s t : State) : Prop extends Keeps s t where
  backlog : s.BacklogLegal → t.BacklogLegal
  eject : t.maps.map = s.maps.map → s.EjectLaw → t.EjectLaw

theorem Keeps.refl (s : State) : Keeps s s := ⟨rfl, id, id, id, id, id, id⟩

theorem Keeps.trans {s t u : State} (h : Keeps s t) (h' : Keeps t u) : Keeps s u :=
  ⟨h'.pending.trans h.pending, h'.mem ∘ h.mem, h'.queue ∘ h.queue, h'.att ∘ h.att, h'.charges ∘ h.charges,
    h'.append ∘ h.append, h'.chans ∘ h.chans⟩

theorem Steady.refl (s : State) : Steady s s := ⟨.refl s, rfl, id, id⟩

theorem Steady.trans {s t u : State} (h : Steady s t) (h' : Steady t u) : Steady s u :=
  ⟨h.toKeeps.trans h'.toKeeps, h'.map.trans h.map, h'.backlog ∘ h.backlog, h'.eject ∘ h.eject⟩

theorem Steady.stepKeeps {s t : State} (h : Steady s t) : StepKeeps s t := ⟨h.toKeeps, h.backlog, fun _ => h.eject⟩

theorem Steady.before {s t u : State} (h : Steady s t) (h' : StepKeeps t u) : StepKeeps s u :=
  ⟨h.toKeeps.trans h'.toKeeps, h'.backlog ∘ h.backlog, fun hmap he => h'.eject (hmap.trans h.map.symm) (h.eject he)⟩

theorem Steady.after {s t u : State} (h' : Steady t u) (h : StepKeeps s t) : StepKeeps s u :=
  ⟨h.toKeeps.trans h'.toKeeps, h'.backlog ∘ h.backlog, fun hmap he => h'.eject (h.eject (h'.map.symm.trans hmap) he)⟩

/-- The backlog law reads the counts of the History Unit, the daylights and the sequencers (R114). -/
theorem State.BacklogLegal.congr {s t : State} (h : s.BacklogLegal) (hocc : t.hist.occupied = s.hist.occupied)
    (hres : t.hist.reserved = s.hist.reserved) (hdays : t.days = s.days)
    (hseqs : t.seqs = s.seqs) : t.BacklogLegal := by
  unfold State.BacklogLegal at *
  rwa [hocc, hres, hdays, hseqs]

/-- The ejector law reads the sequencers, the levels and the map in effect (R99). -/
theorem State.EjectLaw.congr {s t : State} (h : s.EjectLaw) (hseqs : t.seqs = s.seqs) (hlines : t.lines = s.lines)
    (hmap : t.maps.map = s.maps.map) : t.EjectLaw := by
  intro d hd
  rw [hseqs] at hd
  rw [State.level_congr hlines hmap, State.level_congr hlines hmap]
  exact h d hd

/-- An operation on parts that neither the backlog law nor the ejector law reads. -/
theorem Keeps.steady {s t : State} (h : Keeps s t) (hmap : t.maps.map = s.maps.map)
    (hocc : t.hist.occupied = s.hist.occupied) (hres : t.hist.reserved = s.hist.reserved) (hdays : t.days = s.days)
    (hseqs : t.seqs = s.seqs) (hlines : t.lines = s.lines) : Steady s t :=
  ⟨h, hmap, fun hb => hb.congr hocc hres hdays hseqs, fun he => he.congr hseqs hlines hmap⟩

/-! ## Updates of one part -/

theorem steady_setTime (s : State) (x : Time) : Steady s (s.setTime x) :=
  ⟨⟨rfl, id, id, id, id, id, id⟩, rfl, id, id⟩

theorem steady_setLink (s : State) (x : Link) : Steady s (s.setLink x) :=
  ⟨⟨rfl, id, id, id, id, id, id⟩, rfl, id, id⟩

theorem steady_setZones (s : State) (x : Vector Zone 40) : Steady s (s.setZones x) :=
  ⟨⟨rfl, id, id, id, id, id, id⟩, rfl, id, id⟩

theorem steady_setOffers (s : State) (x : List Report) : Steady s (s.setOffers x) :=
  ⟨⟨rfl, id, id, id, id, id, id⟩, rfl, id, id⟩

theorem steady_setChoice (s : State) (x : Nat) : Steady s (s.setChoice x) :=
  ⟨⟨rfl, id, id, id, id, id, id⟩, rfl, id, id⟩

theorem steady_raise (s : State) (k : CauseKind) (source detail : Byte) : Steady s (s.raise k source detail) :=
  steady_setOffers s _

theorem steady_report (s : State) (rs : List Report) : Steady s (s.report rs) := steady_setOffers s _

theorem steady_setMem {s : State} {m : Memory} (h : Memory.wf s.mem = true → Memory.wf m = true) :
    Steady s (s.setMem m) :=
  ⟨⟨rfl, h, id, id, id, id, id⟩, rfl, id, id⟩

theorem steady_setPass {s : State} {p : Passage} (h : s.pass.QueueLegal → p.QueueLegal) : Steady s (s.setPass p) :=
  ⟨⟨rfl, id, h, id, id, id, id⟩, rfl, id, id⟩

theorem steady_setAtt {s : State} {a : Attention} (h : s.att.Legal → a.Legal) : Steady s (s.setAtt a) :=
  ⟨⟨rfl, id, id, h, id, id, id⟩, rfl, id, id⟩

theorem steady_setWeigh {s : State} {w : Weigh} (h : s.weigh.ChargesLegal → w.ChargesLegal) :
    Steady s (s.setWeigh w) :=
  ⟨⟨rfl, id, id, id, h, id, id⟩, rfl, id, id⟩

theorem keeps_setHist {s : State} {x : History} (h : s.hist.AppendLegal → x.AppendLegal) : Keeps s (s.setHist x) :=
  ⟨rfl, id, id, id, id, h, id⟩

theorem steady_setHist {s : State} {x : History} (h : s.hist.AppendLegal → x.AppendLegal)
    (hocc : x.occupied = s.hist.occupied) (hres : x.reserved = s.hist.reserved) : Steady s (s.setHist x) :=
  (keeps_setHist h).steady rfl hocc hres rfl rfl rfl

theorem keeps_setMaps (s : State) (u : MapUnit) : Keeps s (s.setMaps u) := ⟨rfl, id, id, id, id, id, id⟩

theorem steady_setMaps {s : State} {u : MapUnit} (h : u.map = s.maps.map) : Steady s (s.setMaps u) :=
  (keeps_setMaps s u).steady h rfl rfl rfl rfl rfl

theorem keeps_setDay (s : State) (d : Fin 4) (x : Daylight) : Keeps s (s.setDay d x) := ⟨rfl, id, id, id, id, id, id⟩

theorem keeps_setSeq (s : State) (d : Fin 4) (x : Sequencer) : Keeps s (s.setSeq d x) := ⟨rfl, id, id, id, id, id, id⟩

theorem keeps_setLines (s : State) (x : Vector Line 32) : Keeps s (s.setLines x) := ⟨rfl, id, id, id, id, id, id⟩

/-- A channel record replaced by a legal one (R178). -/
theorem steady_setChan {s : State} {c : Fin 10} {x : Channel} (h : s.chans[c].Legal → x.Legal) :
    Steady s (s.setChan c x) := by
  refine ⟨⟨rfl, id, id, id, id, id, fun hall e => ?_⟩, rfl, id, id⟩
  by_cases he : e = c
  · subst he
    simpa [State.setChan] using h (hall e)
  · have hne : c.val ≠ e.val := fun h => he (Fin.ext h.symm)
    simpa [State.setChan, Vector.getElem_set, hne] using hall e

/-! ## The pending set (R131 to R134) -/

/-- The keys after an insertion are those before and the new entry's, rising. -/
theorem insertEntry_rising (e : Entry) : ∀ l : List Entry, (l.map Entry.key).Pairwise (· < ·) →
    (∀ x ∈ l, x.key ≠ e.key) → ((insertEntry e l).map Entry.key).Pairwise (· < ·)
  | [], _, _ => by simp [insertEntry]
  | x :: rest, hl, hne => by
    simp only [List.map_cons, List.pairwise_cons, List.mem_map] at hl
    obtain ⟨hx, hrest⟩ := hl
    have hxe := hne x (by simp)
    unfold insertEntry
    split
    · next hlt =>
      simp only [List.map_cons, List.pairwise_cons, List.mem_cons, List.mem_map]
      refine ⟨?_, hx, hrest⟩
      rintro k (rfl | ⟨y, hy, rfl⟩)
      · exact hlt
      · exact hlt.trans (hx _ ⟨y, hy, rfl⟩)
    · next hge =>
      simp only [List.map_cons, List.pairwise_cons, List.mem_map]
      refine ⟨?_, insertEntry_rising e rest hrest fun y hy => hne y (by simp [hy])⟩
      rintro k ⟨y, hy, rfl⟩
      rcases (mem_insertEntry e y rest).mp hy with rfl | hy
      · omega
      · exact hx _ ⟨y, hy, rfl⟩

theorem Attention.holds_iff (a : Attention) (k : CauseKind) (source : Byte) :
    a.holds k source = true ↔ ∃ e ∈ a.set, e.kind = k ∧ e.source = source := by
  simp [Attention.holds]

/-- A change of the entries' details and counts keeps the set legal. -/
theorem Attention.Legal.map {a : Attention} (h : a.Legal) (f : Entry → Entry) (hkey : ∀ e, (f e).key = e.key)
    (hcount : ∀ e ∈ a.set, 1 ≤ (f e).count ∧ (f e).count ≤ 7) : ({ a with set := a.set.map f } : Attention).Legal := by
  obtain ⟨hlen, hkeys, -⟩ := h
  refine ⟨by simpa using hlen, ?_, by simpa using hcount⟩
  have : (a.set.map f).map Entry.key = a.set.map Entry.key := by simp [hkey]
  rw [this]
  exact hkeys

theorem Attention.offer_legal {a : Attention} (h : a.Legal) (k : CauseKind) (source detail : Byte) :
    (a.offer k source detail).Legal := by
  unfold Attention.offer
  split
  · refine h.map _ (fun e => ?_) fun e he => ?_
    · split <;> rfl
    · have hc := h.2.2 e he
      split
      · dsimp only; omega
      · exact hc
  · next hholds =>
    obtain ⟨hlen, hkeys, hcounts⟩ := h
    split
    · next hroom =>
      refine ⟨by rw [insertEntry_length]; exact hroom, insertEntry_rising _ _ hkeys fun x hx hkey => ?_,
        fun e he => ?_⟩
      · obtain ⟨hk, hs⟩ := causeKey_injective hkey
        exact hholds ((a.holds_iff k source).mpr ⟨x, hx, hk, hs⟩)
      · rcases (mem_insertEntry _ e a.set).mp he with rfl | he
        · exact ⟨le_refl 1, Nat.le_add_left 1 6⟩
        · exact hcounts e he
    · exact ⟨hlen, hkeys, hcounts⟩

theorem Attention.take_legal {a : Attention} (h : a.Legal) (r : Report) : (a.take r).Legal := by
  cases r with
  | cause k source detail => exact offer_legal h k source detail
  | resolution p detail =>
    simp only [Attention.take, Attention.resolve]
    split
    · refine h.map _ (fun e => ?_) fun e he => ?_
      · split <;> rfl
      · have hc := h.2.2 e he
        split <;> exact hc
    · exact offer_legal h _ _ _

theorem Attention.foldl_take_legal (rs : List Report) : ∀ {a : Attention}, a.Legal →
    (rs.foldl Attention.take a).Legal := by
  induction rs with
  | nil => exact id
  | cons r rs ih => exact fun h => ih (take_legal h r)

theorem Attention.afterRead_legal {a : Attention} (h : a.Legal) : a.afterRead.Legal := by
  obtain ⟨hlen, hkeys, hcounts⟩ := h
  unfold Attention.afterRead
  split
  · exact ⟨(List.length_filter_le _ _).trans hlen, hkeys.sublist (List.filter_sublist.map _),
      fun e he => hcounts e (List.mem_of_mem_filter he)⟩
  · exact ⟨hlen, hkeys, hcounts⟩

/-- The end of a step keeps everything. -/
theorem steady_deliver (s : State) : Steady s s.deliver := by
  unfold State.deliver
  split
  · exact .refl s
  · next r _ =>
    exact (steady_setAtt (s := s) (a := s.att.take r) fun h => Attention.take_legal h _).trans (steady_setOffers _ _)
  · exact ((steady_setAtt fun h => Attention.foldl_take_legal _ h).trans (steady_setOffers _ _)).trans
      (steady_setChoice _ _)

/-! ## The injection queue (R154) -/

theorem steady_inject (s : State) (e : QEntry) : Steady s (s.inject e) := by
  obtain ⟨q, w, h, hlen⟩ := s.pass.place_spec e
  rw [State.inject, h]
  exact steady_setPass hlen

theorem steady_injectAll (s : State) (es : List QEntry) : Steady s (s.injectAll es) := by
  obtain ⟨q, w, h, hlen⟩ := s.pass.placeAll_spec es
  rw [State.injectAll, h]
  exact steady_setPass hlen

theorem Passage.pop_queueLegal {p : Passage} {e : QEntry} {rest : List QEntry} (hq : p.queue = e :: rest)
    (h : p.QueueLegal) : (p.pop rest).QueueLegal := by
  obtain ⟨q, w, hpop, hlen⟩ := Passage.fill_spec { p with
    queue := rest, boundary := p.boundary.map fun n => n - 1, port := p.port.countDown }
  rw [Passage.pop, hpop]
  refine hlen ?_
  rw [Passage.QueueLegal, hq] at h
  exact Nat.le_of_succ_le h

/-! ## Completions (R178) -/

theorem Channel.powerOn_legal : Channel.powerOn.Legal := by
  simp [Channel.Legal, Channel.powerOn]

theorem steady_placeStamp (s : State) (c : Fin 10) : Steady s (s.placeStamp c) := by
  simp only [State.placeStamp]
  split
  · split
    · next hdue =>
      refine (steady_setChan fun h => ?_).trans (steady_inject _ _)
      obtain ⟨-, hknown⟩ := h
      exact ⟨fun hidle => absurd (hidle.symm.trans hdue.1) (by decide), hknown⟩
    · exact .refl s
  · exact .refl s

theorem steady_finish (s : State) (c : Fin 10) (code : Byte) : Steady s (s.finish c code) := by
  unfold State.finish
  split
  · exact steady_setChan fun _ => by simp [Channel.Legal]
  · exact .refl s

theorem steady_complete (s : State) (c : Fin 10) (code : Byte) : Steady s (s.complete c code) :=
  (steady_finish s c code).trans (steady_placeStamp _ c)

theorem steady_startTimed (s : State) (c : Fin 10) (stamp : Stamp) : Steady s (s.startTimed c stamp) :=
  steady_setChan fun _ => by simp [Channel.Legal]

theorem steady_startAbort (s : State) (c : Fin 10) (stamp : Stamp) : Steady s (s.startAbort c stamp) :=
  steady_setChan fun _ => by simp [Channel.Legal]

/-! ## The appender (R118 to R120) -/

/-- The append that begins has a record and stays clear of the read index, by the test. -/
theorem steady_appendTest (s : State) : Steady s s.appendTest := by
  unfold State.appendTest
  split
  · exact .refl s
  · next r hring =>
    split
    · next hmay =>
      simp only [State.mayAppend, Bool.and_eq_true, decide_eq_true_eq, Option.isNone_iff_eq_none] at hmay
      obtain ⟨⟨⟨hocc, hnone⟩, -⟩, -⟩ := hmay
      split
      · split
        · exact .refl s
        · refine .trans ?_ (steady_raise _ _ _ _)
          exact steady_setHist id rfl rfl
      · next hfull =>
        refine .trans ?_ (steady_injectAll _ _)
        refine steady_setHist (fun h => ⟨h.1, ?_⟩) rfl rfl
        rintro w ⟨⟩
        exact ⟨hocc, r, hring, rfl, by simpa [Ring.full] using hfull⟩
    · exact .refl s

/-- A close moves the fill position and the number of records together. -/
theorem keeps_closeRecord (s : State) (d : Fin 4) (o : RecordOutcome) : Keeps s (s.closeRecord d o) := by
  unfold State.closeRecord
  split
  · exact .refl s
  · refine ((keeps_setHist ?_).trans (keeps_setDay _ _ _)).trans (steady_appendTest _).toKeeps
    rintro ⟨hpos, happ⟩
    refine ⟨?_, fun w hw => ?_⟩
    · have : (nextPosition s.hist.fill).val = (s.hist.fill.val + 1) % 4 := by simp [nextPosition, Fin.val_add]
      dsimp only
      omega
    · obtain ⟨-, hr⟩ := happ w hw
      exact ⟨Nat.le_add_left _ _, hr⟩

/-! ## The backlog (R114) -/

/-- The number of daylights that hold a reservation. -/
def reservedCount (days : Vector Daylight 4) : Nat := ((List.finRange 4).filter fun d => days[d].reserved).length

theorem State.backlogLegal_iff (s : State) : s.BacklogLegal ↔
    s.hist.occupied + s.hist.reserved ≤ Config.backlogCap ∧ s.hist.reserved = reservedCount s.days
      ∧ ∀ d : Fin 4, (s.days[d].reserved = true ↔ s.days[d].state = .demoulding)
        ∧ (s.seqs[d].phase ≠ .idle ↔ s.days[d].state = .demoulding)
        ∧ (s.days[d].record.isSome = true ↔ s.days[d].state ≠ .vacant) := Iff.rfl

theorem reservedCount_congr {days days' : Vector Daylight 4} (h : ∀ d : Fin 4, days'[d].reserved = days[d].reserved) :
    reservedCount days' = reservedCount days := by
  simp only [reservedCount, h]

theorem reservedCount_eq (days : Vector Daylight 4) : reservedCount days
    = days[0].reserved.toNat + days[1].reserved.toNat + days[2].reserved.toNat + days[3].reserved.toNat := by
  have hrange : List.finRange 4 = [0, 1, 2, 3] := by decide
  simp only [reservedCount, hrange, List.filter_cons, List.filter_nil]
  cases h0 : days[0].reserved <;> cases h1 : days[1].reserved <;> cases h2 : days[2].reserved <;>
    cases h3 : days[3].reserved <;> simp [h0, h1, h2, h3]

/-- Replacing one daylight changes the number by that daylight's own reservation. -/
theorem reservedCount_set (days : Vector Daylight 4) (d : Fin 4) (x : Daylight) :
    reservedCount (days.set d x) + days[d].reserved.toNat = reservedCount days + x.reserved.toNat := by
  rw [reservedCount_eq, reservedCount_eq]
  fin_cases d <;> simp <;> omega

end Sys2Proof.Machine
end

section
/-! The demould strokes and the sampled lines keep the legal parts. A stroke's end frees the daylight, its reservation
and its sequencer together (R61, R105); a line that asserts CLOSED or CELL STOP stops the sequences that the ejector
law speaks of (R93, R94, R99). -/

namespace Sys2Proof.Machine

theorem getElem_set_fin {α : Type} {n : Nat} (v : Vector α n) (d e : Fin n) (x : α) :
    (v.set d x)[e] = if e = d then x else v[e] := by
  by_cases h : e = d
  · simp [h]
  · have hne : d.val ≠ e.val := fun h' => h (Fin.ext h'.symm)
    simp [h, hne]

@[simp] theorem getElem_set_self_fin {α : Type} {n : Nat} (v : Vector α n) (d : Fin n) (x : α) :
    (v.set d x)[d] = x := by
  rw [getElem_set_fin, if_pos rfl]

/-! ## What a stroke leaves alone -/

/-- The operations of a demould sequence and of the press touch the daylights, the sequencers, the backlog, the queue of
the passage, the channels and the reports of the step; they leave the other parts as they were. -/
structure StrokeFrame (s t : State) : Prop where
  time : t.time = s.time
  link : t.link = s.link
  zones : t.zones = s.zones
  weigh : t.weigh = s.weigh
  lines : t.lines = s.lines
  att : t.att = s.att
  maps : t.maps = s.maps
  mem : t.mem = s.mem
  pending : t.pending = s.pending

theorem StrokeFrame.refl (s : State) : StrokeFrame s s := ⟨rfl, rfl, rfl, rfl, rfl, rfl, rfl, rfl, rfl⟩

theorem StrokeFrame.trans {s t u : State} (h : StrokeFrame s t) (h' : StrokeFrame t u) : StrokeFrame s u :=
  ⟨h'.time.trans h.time, h'.link.trans h.link, h'.zones.trans h.zones, h'.weigh.trans h.weigh, h'.lines.trans h.lines,
    h'.att.trans h.att, h'.maps.trans h.maps, h'.mem.trans h.mem, h'.pending.trans h.pending⟩

theorem strokeFrame_setSeq (s : State) (d : Fin 4) (q : Sequencer) : StrokeFrame s (s.setSeq d q) :=
  ⟨rfl, rfl, rfl, rfl, rfl, rfl, rfl, rfl, rfl⟩

theorem strokeFrame_setDay (s : State) (d : Fin 4) (x : Daylight) : StrokeFrame s (s.setDay d x) :=
  ⟨rfl, rfl, rfl, rfl, rfl, rfl, rfl, rfl, rfl⟩

theorem strokeFrame_raise (s : State) (k : CauseKind) (source detail : Byte) :
    StrokeFrame s (s.raise k source detail) :=
  ⟨rfl, rfl, rfl, rfl, rfl, rfl, rfl, rfl, rfl⟩

theorem strokeFrame_strokeFails (s : State) (d : Fin 4) (r : FaultReason) : StrokeFrame s (s.strokeFails d r) := by
  constructor <;> simp [State.strokeFails, State.demouldFails]

theorem strokeFrame_strokeSucceeds (s : State) (d : Fin 4) : StrokeFrame s (s.strokeSucceeds d) := by
  simp only [State.strokeSucceeds, State.demouldSucceeds]
  split <;> constructor <;> simp

theorem strokeFrame_dwellOver (s : State) (d : Fin 4) : StrokeFrame s (s.dwellOver d) := by
  unfold State.dwellOver
  split
  · exact strokeFrame_strokeFails s d _
  · exact strokeFrame_setSeq s d _

theorem strokeFrame_enterDwell (s : State) (d : Fin 4) : StrokeFrame s (s.enterDwell d) := by
  simp only [State.enterDwell]
  split
  · exact (strokeFrame_setSeq s d _).trans (strokeFrame_dwellOver _ d)
  · exact strokeFrame_setSeq s d _

theorem strokeFrame_retractionComplete (s : State) (d : Fin 4) : StrokeFrame s (s.retractionComplete d) := by
  unfold State.retractionComplete
  split
  · exact strokeFrame_strokeSucceeds s d
  all_goals
    split
    · exact strokeFrame_enterDwell s d
    · exact strokeFrame_strokeFails s d _

theorem strokeFrame_enterRetracting (s : State) (d : Fin 4) (last : Stroke) :
    StrokeFrame s (s.enterRetracting d last) := by
  simp only [State.enterRetracting]
  split
  · exact strokeFrame_setSeq s d _
  · exact (strokeFrame_setSeq s d _).trans (strokeFrame_retractionComplete _ d)

theorem strokeFrame_enterFinalRetract (s : State) (d : Fin 4) : StrokeFrame s (s.enterFinalRetract d) := by
  simp only [State.enterFinalRetract]
  split
  · exact strokeFrame_setSeq s d _
  · exact (strokeFrame_setSeq s d _).trans (strokeFrame_strokeFails _ d _)

theorem strokeFrame_stopEvent (s : State) (d : Fin 4) (r : StopReason) : StrokeFrame s (s.stopEvent d r) := by
  unfold State.stopEvent
  split
  · exact (strokeFrame_setSeq s d _).trans (strokeFrame_enterFinalRetract _ d)
  · exact .refl s

theorem strokeFrame_ejectedAsserts (s : State) (d : Fin 4) : StrokeFrame s (s.ejectedAsserts d) := by
  unfold State.ejectedAsserts
  split
  · exact strokeFrame_enterRetracting s d _
  all_goals exact .refl s

theorem strokeFrame_ejectedDeasserts (s : State) (d : Fin 4) : StrokeFrame s (s.ejectedDeasserts d) := by
  unfold State.ejectedDeasserts
  split
  · exact strokeFrame_retractionComplete s d
  · exact strokeFrame_strokeFails s d _
  all_goals exact .refl s

theorem strokeFrame_foldl_stopEvent (r : StopReason) (l : List (Fin 4)) :
    ∀ s : State, StrokeFrame s (l.foldl (fun acc d => acc.stopEvent d r) s) := by
  induction l with
  | nil => exact .refl
  | cons d l ih => exact fun s => (strokeFrame_stopEvent s d r).trans (ih _)

theorem strokeFrame_cellStopAsserts (s : State) : StrokeFrame s s.cellStopAsserts :=
  (strokeFrame_foldl_stopEvent _ _ s).trans (strokeFrame_raise _ _ _ _)

theorem strokeFrame_pressCloses (s : State) (d : Fin 4) : StrokeFrame s (s.pressCloses d) := by
  unfold State.pressCloses
  split
  · exact strokeFrame_setDay s d _
  · exact strokeFrame_setDay s d _
  all_goals exact .refl s

theorem strokeFrame_pressOpens (s : State) (d : Fin 4) : StrokeFrame s (s.pressOpens d) := by
  unfold State.pressOpens
  split
  · exact (strokeFrame_setDay s d _).trans (strokeFrame_raise _ _ _ _)
  all_goals exact .refl s

theorem strokeFrame_reportChange (s : State) (f : Option LineFunction) (asserted : Bool) :
    StrokeFrame s (s.reportChange f asserted) := by
  unfold State.reportChange
  split
  · split
    · exact (strokeFrame_pressCloses s _).trans (strokeFrame_stopEvent _ _ _)
    · exact strokeFrame_pressOpens s _
  · split
    · exact strokeFrame_ejectedAsserts s _
    · exact strokeFrame_ejectedDeasserts s _
  · split
    · exact strokeFrame_cellStopAsserts s
    · exact .refl s
  all_goals exact .refl s

/-! ## Daylights -/

/-- A daylight's context `x` in the place of `c` holds the same reservation and as much of a record as its state asks.
-/
def Daylight.HoldsAs (c x : Daylight) : Prop :=
  x.reserved = c.reserved ∧ (x.state = .demoulding ↔ c.state = .demoulding)
    ∧ ((c.record.isSome = true ↔ c.state ≠ .vacant) → (x.record.isSome = true ↔ x.state ≠ .vacant))

theorem Daylight.HoldsAs.refl (c : Daylight) : c.HoldsAs c := ⟨rfl, .rfl, id⟩

theorem steady_setDays {s : State} {x : Vector Daylight 4} (h : ∀ d : Fin 4, s.days[d].HoldsAs x[d]) :
    Steady s (s.setDays x) := by
  refine ⟨⟨rfl, id, id, id, id, id, id⟩, rfl, ?_, id⟩
  rw [State.backlogLegal_iff, State.backlogLegal_iff]
  rintro ⟨hcap, hres, hall⟩
  refine ⟨hcap, hres.trans (reservedCount_congr fun d => (h d).1).symm, fun d => ?_⟩
  obtain ⟨hreserved, hseq, hrecord⟩ := hall d
  obtain ⟨hr, hd, hrec⟩ := h d
  exact ⟨by rw [State.setDays_days, hr, hreserved, hd], by rw [State.setDays_days, hd]; exact hseq, hrec hrecord⟩

theorem steady_setDay {s : State} {d : Fin 4} {x : Daylight} (h : s.days[d].HoldsAs x) : Steady s (s.setDay d x) := by
  refine steady_setDays fun e => ?_
  rw [getElem_set_fin]
  split
  · next he => rw [he]; exact h
  · exact .refl _

theorem steady_noteChange (s : State) (z : Fin 40) (target : Nat) (old : Option Nat) (new : Nat) :
    Steady s (s.noteChange z target old new) := by
  refine steady_setDays fun d => ?_
  simp only [Fin.getElem_fin, Vector.getElem_ofFn]
  split
  · exact ⟨rfl, .rfl, by simp⟩
  · exact .refl _

/-! ## The close of a record (R115) -/

/-- The backlog of a History Unit that takes a record against a reservation. -/
def History.take (h : History) (bytes : List Byte) : History :=
  { h with
    backlog := h.backlog.set h.fill bytes
    fill := nextPosition h.fill
    occupied := h.occupied + 1
    reserved := h.reserved - 1 }

/-- A daylight whose record is closed (R62). -/
def Daylight.closed (c : Daylight) : Daylight := { c with state := .vacant, record := none, reserved := false }

theorem State.closeRecord_of_record {s : State} {d : Fin 4} {r : OpenRecord} (h : s.days[d].record = some r)
    (o : RecordOutcome) : s.closeRecord d o = ((s.setHist (s.hist.take
        (recordBytes d s.days[d] r o s.time s.maps.generation))).setDay d s.days[d].closed).appendTest := by
  unfold State.closeRecord
  rw [h]
  rfl

theorem State.closeRecord_days {s : State} {d : Fin 4} {r : OpenRecord} (h : s.days[d].record = some r)
    (o : RecordOutcome) : (s.closeRecord d o).days = s.days.set d s.days[d].closed := by
  rw [closeRecord_of_record h]; simp

theorem State.closeRecord_occupied {s : State} {d : Fin 4} {r : OpenRecord} (h : s.days[d].record = some r)
    (o : RecordOutcome) : (s.closeRecord d o).hist.occupied = s.hist.occupied + 1 := by
  rw [closeRecord_of_record h]; simp [History.take]

theorem State.closeRecord_reserved {s : State} {d : Fin 4} {r : OpenRecord} (h : s.days[d].record = some r)
    (o : RecordOutcome) : (s.closeRecord d o).hist.reserved = s.hist.reserved - 1 := by
  rw [closeRecord_of_record h]; simp [History.take]

/-! ## The sequencers -/

/-- The ejector law is kept by what leaves the levels and lets no new sequence run that can be stopped (R99). -/
theorem State.EjectLaw.of_stoppable {s t : State} (h : s.EjectLaw)
    (hseqs : ∀ d : Fin 4, t.seqs[d].phase.stoppable = true → s.seqs[d].phase.stoppable = true)
    (hlines : t.lines = s.lines) (hmap : t.maps.map = s.maps.map) : t.EjectLaw := by
  intro d hd
  rw [State.level_congr hlines hmap, State.level_congr hlines hmap]
  exact h d (hseqs d hd)

theorem Phase.ne_idle_of_stoppable {p : Phase} (h : p.stoppable = true) : p ≠ .idle := by
  rintro rfl
  cases h

/-- A running sequence stays one, and can be stopped only if it could before. -/
theorem steady_setSeq {s : State} {d : Fin 4} {q : Sequencer} (hidle : q.phase = .idle ↔ s.seqs[d].phase = .idle)
    (hstop : q.phase.stoppable = true → s.seqs[d].phase.stoppable = true) : Steady s (s.setSeq d q) := by
  refine ⟨keeps_setSeq s d q, rfl, ?_, fun h => h.of_stoppable (fun e => ?_) rfl rfl⟩
  · rw [State.backlogLegal_iff, State.backlogLegal_iff]
    rintro ⟨hcap, hres, hall⟩
    refine ⟨hcap, hres, fun e => ?_⟩
    obtain ⟨hreserved, hseq, hrecord⟩ := hall e
    refine ⟨hreserved, ?_, hrecord⟩
    rw [State.setSeq_seqs, getElem_set_fin]
    split
    · next he => subst he; exact (not_congr hidle).trans hseq
    · exact hseq
  · rw [State.setSeq_seqs, getElem_set_fin]
    split
    · next he => subst he; exact hstop
    · exact id

/-- The end of a stroke: the sequencer is idle, the daylight no longer DEMOULDING, its reservation gone (R61, R105). -/
theorem State.BacklogLegal.strokeEnds {s t : State} {d : Fin 4} {x : Daylight} {q : Sequencer} (h : s.BacklogLegal)
    (hrun : s.seqs[d].phase ≠ .idle) (hdays : t.days = s.days.set d x) (hseqs : t.seqs = s.seqs.set d q)
    (hidle : q.phase = .idle) (hfree : x.reserved = false) (hstate : x.state ≠ .demoulding)
    (hrecord : x.record.isSome = true ↔ x.state ≠ .vacant) (hres : t.hist.reserved = s.hist.reserved - 1)
    (hocc : t.hist.occupied ≤ s.hist.occupied + 1) : t.BacklogLegal := by
  rw [State.backlogLegal_iff] at h ⊢
  obtain ⟨hcap, hcount, hall⟩ := h
  obtain ⟨hreserved, hseq, -⟩ := hall d
  have hheld : s.days[d].reserved = true := hreserved.mpr (hseq.mp hrun)
  have hset := reservedCount_set s.days d x
  simp only [hheld, hfree, Bool.toNat_true, Bool.toNat_false] at hset
  refine ⟨by omega, by rw [hdays]; omega, fun e => ?_⟩
  rw [hdays, hseqs, getElem_set_fin, getElem_set_fin]
  split
  · exact ⟨by simp [hfree, hstate], by simp [hidle, hstate], hrecord⟩
  · exact hall e

@[simp] theorem State.demouldFails_seqs (s : State) (d : Fin 4) (r : FaultReason) (n : Nat) :
    (s.demouldFails d r n).seqs = s.seqs := by simp [State.demouldFails]

theorem State.strokeFails_seqs (s : State) (d : Fin 4) (r : FaultReason) :
    (s.strokeFails d r).seqs = s.seqs.set d s.seqs[d].ended := by simp [State.strokeFails]

theorem State.strokeFails_days (s : State) (d : Fin 4) (r : FaultReason) :
    (s.strokeFails d r).days = s.days.set d { s.days[d] with
      state := .faulted, fault := r, attempts := s.seqs[d].attempts, reserved := false } := by
  simp [State.strokeFails, State.demouldFails]

theorem State.strokeFails_hist (s : State) (d : Fin 4) (r : FaultReason) :
    (s.strokeFails d r).hist = { s.hist with reserved := s.hist.reserved - 1 } := by
  simp [State.strokeFails, State.demouldFails]

theorem steady_strokeFails {s : State} {d : Fin 4} (hrun : s.seqs[d].phase ≠ .idle) (reason : FaultReason) :
    Steady s (s.strokeFails d reason) := by
  have hframe := strokeFrame_strokeFails s d reason
  have hmap := congrArg MapUnit.map hframe.maps
  refine ⟨?_, hmap, fun hb => ?_, fun he => he.of_stoppable (fun e => ?_) hframe.lines hmap⟩
  · refine .trans ?_ (steady_complete _ _ _).toKeeps
    refine .trans ?_ (steady_raise _ _ _ _).toKeeps
    refine .trans ?_ (keeps_setHist id)
    exact (keeps_setSeq s d _).trans (keeps_setDay _ d _)
  · have hrecord := (hb.2.2 d).2.2
    have hstate := (hb.2.2 d).2.1.mp hrun
    refine hb.strokeEnds hrun (s.strokeFails_days d reason) (s.strokeFails_seqs d reason) rfl rfl (by simp) ?_ ?_ ?_
    · simp [hrecord, hstate, -Fin.getElem_fin]
    · rw [s.strokeFails_hist]
    · rw [s.strokeFails_hist]; exact Nat.le_succ _
  · rw [s.strokeFails_seqs, getElem_set_fin]
    split
    · simp [Sequencer.ended, Phase.stoppable]
    · exact id

/-- A success closes the record against the stroke's own reservation, whichever way the stamp goes (R60, log 11). -/
theorem State.demouldSucceeds_days {s : State} {d : Fin 4} {r : OpenRecord} (h : s.days[d].record = some r) (n : Nat) :
    (s.demouldSucceeds d n).days
      = s.days.set d ({ s.days[d] with attempts := n, fault := .none } : Daylight).closed := by
  simp only [State.demouldSucceeds]
  split
  · rw [State.setChoice_days, closeRecord_days (r := r) (by simp [h, -Fin.getElem_fin])]
    simp
  · rw [State.setChoice_days, State.placeStamp_days, closeRecord_days (r := r) (by simp [h, -Fin.getElem_fin])]
    simp

theorem State.demouldSucceeds_counts {s : State} {d : Fin 4} {r : OpenRecord} (h : s.days[d].record = some r)
    (n : Nat) : (s.demouldSucceeds d n).hist.occupied = s.hist.occupied + 1
      ∧ (s.demouldSucceeds d n).hist.reserved = s.hist.reserved - 1 := by
  simp only [State.demouldSucceeds]
  split
  · rw [State.setChoice_hist, closeRecord_occupied (r := r) (by simp [h, -Fin.getElem_fin]), closeRecord_reserved
      (r := r) (by simp [h, -Fin.getElem_fin])]
    simp
  · rw [State.setChoice_hist, State.placeStamp_hist, closeRecord_occupied (r := r) (by simp [h, -Fin.getElem_fin]),
      closeRecord_reserved (r := r) (by simp [h, -Fin.getElem_fin])]
    simp

@[simp] theorem State.demouldSucceeds_seqs (s : State) (d : Fin 4) (n : Nat) :
    (s.demouldSucceeds d n).seqs = s.seqs := by
  simp only [State.demouldSucceeds]; split <;> simp

theorem keeps_demouldSucceeds (s : State) (d : Fin 4) (n : Nat) : Keeps s (s.demouldSucceeds d n) := by
  have hstart := (keeps_setDay s d { s.days[d] with attempts := n, fault := .none }).trans
    (steady_finish _ (dayChannel d) 0x02).toKeeps
  simp only [State.demouldSucceeds]
  split
  · exact (hstart.trans ((steady_placeStamp _ _).toKeeps.trans (keeps_closeRecord _ _ _))).trans
      (steady_setChoice _ _).toKeeps
  · exact (hstart.trans ((keeps_closeRecord _ _ _).trans (steady_placeStamp _ _).toKeeps)).trans
      (steady_setChoice _ _).toKeeps

theorem State.strokeSucceeds_seqs (s : State) (d : Fin 4) :
    (s.strokeSucceeds d).seqs = s.seqs.set d s.seqs[d].ended := by simp [State.strokeSucceeds]

theorem steady_strokeSucceeds {s : State} {d : Fin 4} (hrun : s.seqs[d].phase ≠ .idle) :
    Steady s (s.strokeSucceeds d) := by
  have hframe := strokeFrame_strokeSucceeds s d
  have hmap := congrArg MapUnit.map hframe.maps
  refine ⟨(keeps_setSeq s d _).trans (keeps_demouldSucceeds _ _ _), hmap, fun hb => ?_,
    fun he => he.of_stoppable (fun e => ?_) hframe.lines hmap⟩
  · have hstate := (hb.2.2 d).2.1.mp hrun
    obtain ⟨r, hr⟩ := Option.isSome_iff_exists.mp ((hb.2.2 d).2.2.mpr (by simp [hstate, -Fin.getElem_fin]))
    obtain ⟨hocc, hres⟩ := State.demouldSucceeds_counts (s := s.setSeq d s.seqs[d].ended) hr s.seqs[d].attempts
    exact hb.strokeEnds hrun (State.demouldSucceeds_days (s := s.setSeq d s.seqs[d].ended) hr _)
      (s.strokeSucceeds_seqs d) rfl rfl (by simp [Daylight.closed]) (by simp [Daylight.closed]) hres hocc.le
  · rw [s.strokeSucceeds_seqs, getElem_set_fin]
    split
    · simp [Sequencer.ended, Phase.stoppable]
    · exact id

/-! ## The phases (R100 to R106) -/

/-- A change of phase of a sequence that can be stopped, to another that is not IDLE. -/
theorem steady_setSeq_of_stoppable {s : State} {d : Fin 4} {q : Sequencer} (hstop : s.seqs[d].phase.stoppable = true)
    (hrun : q.phase ≠ .idle) : Steady s (s.setSeq d q) :=
  steady_setSeq (by simp [hrun, Phase.ne_idle_of_stoppable hstop, -Fin.getElem_fin]) fun _ => hstop

theorem steady_enterExtending {s : State} {d : Fin 4} (hstop : s.seqs[d].phase.stoppable = true) :
    Steady s (s.enterExtending d) :=
  steady_setSeq_of_stoppable hstop (by simp)

theorem steady_dwellOver {s : State} {d : Fin 4} (hstop : s.seqs[d].phase.stoppable = true) :
    Steady s (s.dwellOver d) := by
  unfold State.dwellOver
  split
  · exact steady_strokeFails (Phase.ne_idle_of_stoppable hstop) _
  · exact steady_enterExtending hstop

theorem steady_enterDwell {s : State} {d : Fin 4} (hstop : s.seqs[d].phase.stoppable = true) :
    Steady s (s.enterDwell d) := by
  have hdwell := steady_setSeq_of_stoppable (q := { s.seqs[d] with
    phase := .dwell, expiry := some (s.after s.seqs[d].dwell) }) hstop (by simp)
  simp only [State.enterDwell]
  split
  · exact hdwell.trans (steady_dwellOver (by simp [Phase.stoppable]))
  · exact hdwell

theorem steady_retractionComplete {s : State} {d : Fin 4} (hstop : s.seqs[d].phase.stoppable = true) :
    Steady s (s.retractionComplete d) := by
  have hagain : Steady s (if s.seqs[d].attempts < 1 + s.seqs[d].retries then s.enterDwell d
      else s.strokeFails d .stuck) := by
    split
    · exact steady_enterDwell hstop
    · exact steady_strokeFails (Phase.ne_idle_of_stoppable hstop) _
  unfold State.retractionComplete
  split
  · exact steady_strokeSucceeds (Phase.ne_idle_of_stoppable hstop)
  · exact hagain
  · exact hagain

theorem steady_enterRetracting {s : State} {d : Fin 4} (hstop : s.seqs[d].phase.stoppable = true) (last : Stroke) :
    Steady s (s.enterRetracting d last) := by
  have hretract := steady_setSeq_of_stoppable (q := { s.seqs[d] with
    phase := .retracting, last := last, expiry := some (s.after s.seqs[d].stroke) }) hstop (by simp)
  simp only [State.enterRetracting]
  split
  · exact hretract
  · exact hretract.trans (steady_retractionComplete (by simp [Phase.stoppable]))

theorem steady_enterFinalRetract {s : State} {d : Fin 4} (hrun : s.seqs[d].phase ≠ .idle) :
    Steady s (s.enterFinalRetract d) := by
  have hfinal : Steady s (s.setSeq d { s.seqs[d] with
      phase := .finalRetract, expiry := some (s.after s.seqs[d].stroke) }) :=
    steady_setSeq (by simp [hrun, -Fin.getElem_fin]) (by simp [Phase.stoppable])
  simp only [State.enterFinalRetract]
  split
  · exact hfinal
  · exact hfinal.trans (steady_strokeFails (by simp) _)

theorem steady_stopEvent (s : State) (d : Fin 4) (reason : StopReason) : Steady s (s.stopEvent d reason) := by
  unfold State.stopEvent
  split
  · next hstop =>
    have hrun := Phase.ne_idle_of_stoppable hstop
    refine .trans ?_ (steady_enterFinalRetract (by simpa using hrun))
    exact steady_setSeq .rfl id
  · exact .refl s

theorem steady_abortStroke (s : State) (d : Fin 4) : Steady s (s.abortStroke d) := by
  unfold State.abortStroke
  split
  · exact .refl s
  · exact steady_stopEvent s d _

theorem steady_ejectedAsserts (s : State) (d : Fin 4) : Steady s (s.ejectedAsserts d) := by
  unfold State.ejectedAsserts
  split
  · next h => exact steady_enterRetracting (by rw [h]; rfl) _
  all_goals exact .refl s

theorem steady_ejectedDeasserts (s : State) (d : Fin 4) : Steady s (s.ejectedDeasserts d) := by
  unfold State.ejectedDeasserts
  split
  · next h => exact steady_retractionComplete (by rw [h]; rfl)
  · next h => exact steady_strokeFails (by rw [h]; decide) _
  all_goals exact .refl s

/-! ## The stop events (R93, R94, R103) -/

theorem State.enterFinalRetract_seqs (s : State) (d e : Fin 4) : (s.enterFinalRetract d).seqs[e].phase.stoppable
    = (s.seqs[e].phase.stoppable && decide (e ≠ d)) := by
  simp only [State.enterFinalRetract]
  split <;> by_cases he : e = d <;>
    simp [State.strokeFails_seqs, getElem_set_fin, he, Phase.stoppable, Sequencer.ended, -Fin.getElem_fin]

/-- A stop event leaves its own sequence in no phase that can be stopped, and the others as they were. -/
theorem State.stopEvent_stoppable (s : State) (d e : Fin 4) (reason : StopReason) :
    (s.stopEvent d reason).seqs[e].phase.stoppable = (s.seqs[e].phase.stoppable && decide (e ≠ d)) := by
  unfold State.stopEvent
  split
  · rw [State.enterFinalRetract_seqs, State.setSeq_seqs, getElem_set_fin]
    split
    · next he => simp [he]
    · rfl
  · next h => by_cases he : e = d <;> simp [he, h, -Fin.getElem_fin]

theorem State.foldl_stopEvent_stoppable (reason : StopReason) (l : List (Fin 4)) :
    ∀ (s : State) (e : Fin 4), (l.foldl (fun acc d => acc.stopEvent d reason) s).seqs[e].phase.stoppable
      = (s.seqs[e].phase.stoppable && decide (e ∉ l)) := by
  induction l with
  | nil => simp
  | cons d l ih =>
    intro s e
    rw [List.foldl_cons, ih, stopEvent_stoppable]
    by_cases he : e = d <;> simp [he]

theorem steady_foldl_stopEvent (reason : StopReason) (l : List (Fin 4)) :
    ∀ s : State, Steady s (l.foldl (fun acc d => acc.stopEvent d reason) s) := by
  induction l with
  | nil => exact .refl
  | cons d l ih => exact fun s => (steady_stopEvent s d reason).trans (ih _)

theorem steady_cellStopAsserts (s : State) : Steady s s.cellStopAsserts :=
  (steady_foldl_stopEvent _ _ s).trans (steady_raise _ _ _ _)

/-- After CELL STOP no sequence can be stopped any more. -/
theorem State.cellStopAsserts_stoppable (s : State) (e : Fin 4) :
    s.cellStopAsserts.seqs[e].phase.stoppable = false := by
  rw [State.cellStopAsserts, State.raise_seqs, foldl_stopEvent_stoppable]
  simp

/-! ## The press (R49, R50) -/

theorem steady_pressCloses (s : State) (d : Fin 4) : Steady s (s.pressCloses d) := by
  unfold State.pressCloses
  split
  · next h => exact steady_setDay ⟨rfl, by simp [h, -Fin.getElem_fin], by simp [h, -Fin.getElem_fin]⟩
  · next h => exact steady_setDay ⟨rfl, by simp [h, -Fin.getElem_fin], by simp [h, -Fin.getElem_fin]⟩
  all_goals exact .refl s

theorem steady_pressOpens (s : State) (d : Fin 4) : Steady s (s.pressOpens d) := by
  unfold State.pressOpens
  split
  · next h =>
    refine .trans ?_ (steady_raise _ _ _ _)
    exact steady_setDay ⟨rfl, by simp [h, -Fin.getElem_fin], by simp [h, -Fin.getElem_fin]⟩
  all_goals exact .refl s

@[simp] theorem State.pressCloses_seqs (s : State) (d : Fin 4) : (s.pressCloses d).seqs = s.seqs := by
  unfold State.pressCloses; split <;> rfl
@[simp] theorem State.pressOpens_seqs (s : State) (d : Fin 4) : (s.pressOpens d).seqs = s.seqs := by
  unfold State.pressOpens; split <;> rfl

/-! ## Levels -/

theorem CellMap.lineOf_function {m : CellMap} {f : LineFunction} {n : Fin 32} (h : m.lineOf f = some n) :
    m.lines[n].function? = some f := by
  simpa using List.find?_some h

theorem State.cell_congr {s t : State} (h : t.maps.map = s.maps.map) : t.cell = s.cell := by
  simp [State.cell, MapUnit.effective, h]

/-- A level is read from the levels of the lines. -/
theorem State.level_of_levels {s t : State} (hl : ∀ n : Fin 32, t.lines[n].level = s.lines[n].level)
    (hm : t.maps.map = s.maps.map) (f : LineFunction) : t.level f = s.level f := by
  rw [State.level, State.level, cell_congr hm]
  split
  · exact hl _
  · rfl

theorem State.EjectLaw.of_levels {s t : State} (h : s.EjectLaw) (hseqs : t.seqs = s.seqs)
    (hl : ∀ n : Fin 32, t.lines[n].level = s.lines[n].level) (hm : t.maps.map = s.maps.map) : t.EjectLaw := by
  intro d hd
  rw [hseqs] at hd
  rw [State.level_of_levels hl hm, State.level_of_levels hl hm]
  exact h d hd

/-- A line has one function, so that its change moves no level of another. -/
theorem State.level_setLine_of_ne (s : State) {n : Fin 32} {f : LineFunction} (x : Line)
    (h : s.cell.lines[n].function? ≠ some f) : (s.setLine n x).level f = s.level f := by
  have hcell : (s.setLine n x).cell = s.cell := rfl
  rw [State.level, State.level, hcell]
  split
  · next m hm =>
    have hne : m ≠ n := fun he => h (he ▸ CellMap.lineOf_function hm)
    rw [State.setLine_lines, getElem_set_fin, if_neg hne]
  · rfl

/-- A deasserted line reads deasserted, and no other function's line is touched. -/
theorem State.level_setLine_false (s : State) (n : Fin 32) (f : LineFunction) (x : Line) (hx : x.level = false)
    (h : s.level f = false) : (s.setLine n x).level f = false := by
  have hcell : (s.setLine n x).cell = s.cell := rfl
  rw [State.level] at h ⊢
  rw [hcell]
  split at h
  · rw [State.setLine_lines, getElem_set_fin]
    split
    · exact hx
    · exact h
  · rfl

/-! ## A debounced change (R93) -/

/-- The report of a change keeps everything; what it does for the ejector law is said below. -/
theorem steady_reportChange (s : State) (f : Option LineFunction) (asserted : Bool) :
    Steady s (s.reportChange f asserted) := by
  unfold State.reportChange
  split
  · split
    · exact (steady_pressCloses s _).trans (steady_stopEvent _ _ _)
    · exact steady_pressOpens s _
  · split
    · exact steady_ejectedAsserts s _
    · exact steady_ejectedDeasserts s _
  · split
    · exact steady_cellStopAsserts s
    · exact .refl s
  all_goals exact .refl s

/-- The ejector law before a line's change and after its report (R93, R94, R99): an assertion of CLOSED or CELL STOP
stops the sequences it concerns, every other change moves no level of the law upward. -/
theorem State.EjectLaw.changeLine {s : State} (h : s.EjectLaw) (n : Fin 32) : (s.changeLine n).EjectLaw := by
  unfold State.changeLine
  generalize hx : ({ s.lines[n] with level := !s.lines[n].level } : Line) = x
  have hlevel : x.level = !s.lines[n].level := by rw [← hx]
  by_cases hassert : (!s.lines[n].level) = true
  · have hother {f : Option LineFunction} (hf : s.cell.lines[n].function? = f) (hc : ∀ d, f ≠ some (.closed d))
        (hs : f ≠ some .cellStop) : ((s.setLine n x).reportChange f true).EjectLaw := by
      refine (steady_reportChange _ _ _).eject fun d hd => ?_
      rw [s.level_setLine_of_ne x (by rw [hf]; exact hc d), s.level_setLine_of_ne x (by rw [hf]; exact hs)]
      exact h d hd
    rw [hassert]
    cases hf : s.cell.lines[n].function? with
    | none => exact hother hf (by simp) (by simp)
    | some f =>
      cases f with
      | closed d =>
        intro e he
        have hmaps : ((s.setLine n x).reportChange (some (.closed d)) true).maps.map = (s.setLine n x).maps.map :=
          (steady_reportChange _ _ _).map
        have hlines : ((s.setLine n x).reportChange (some (.closed d)) true).lines = (s.setLine n x).lines :=
          (strokeFrame_reportChange _ _ _).lines
        have hstop : (((s.setLine n x).pressCloses d).stopEvent d .closedDuring).seqs[e].phase.stoppable = true := he
        rw [stopEvent_stoppable, State.pressCloses_seqs, State.setLine_seqs, Bool.and_eq_true, decide_eq_true_eq]
          at hstop
        obtain ⟨hes, hed⟩ := hstop
        rw [State.level_congr hlines hmaps, State.level_congr hlines hmaps,
          s.level_setLine_of_ne x (by simp [hf, Ne.symm hed, -Fin.getElem_fin]),
          s.level_setLine_of_ne x (by simp [hf, -Fin.getElem_fin])]
        exact h e hes
      | cellStop =>
        intro e he
        have hnone : ((s.setLine n x).cellStopAsserts).seqs[e].phase.stoppable = true := he
        rw [cellStopAsserts_stoppable] at hnone
        cases hnone
      | eject _ => exact hother hf (by simp) (by simp)
      | ejected _ => exact hother hf (by simp) (by simp)
      | heatEnable => exact hother hf (by simp) (by simp)
  · refine (steady_reportChange _ _ _).eject fun d hd => ?_
    have hfalse : x.level = false := hlevel.trans (by simpa using hassert)
    obtain ⟨hclosed, hstop⟩ := h d hd
    exact ⟨s.level_setLine_false n _ x hfalse hclosed, s.level_setLine_false n _ x hfalse hstop⟩

theorem steady_changeLine (s : State) (n : Fin 32) : Steady s (s.changeLine n) := by
  have hreport := steady_reportChange (s.setLine n { s.lines[n] with level := !s.lines[n].level })
    s.cell.lines[n].function? (!s.lines[n].level)
  exact ⟨(keeps_setLines s _).trans hreport.toKeeps, hreport.map, hreport.backlog, fun he => he.changeLine n⟩

/-! ## Samples (R92) -/

theorem steady_foldl_changeLine (l : List (Fin 32)) : ∀ s : State, Steady s (l.foldl State.changeLine s) := by
  induction l with
  | nil => exact .refl
  | cons n l ih => exact fun s => (steady_changeLine s n).trans (ih _)

/-- Lines that keep their levels: run counts and latches move alone (R92, R95). -/
theorem steady_setLines {s : State} {x : Vector Line 32} (h : ∀ n : Fin 32, x[n].level = s.lines[n].level) :
    Steady s (s.setLines x) :=
  ⟨keeps_setLines s x, rfl, id, fun he => he.of_levels rfl h rfl⟩

theorem steady_sampleLines (s : State) (pins : BitVec 32) : Steady s (s.sampleLines pins) := by
  have hrun : Steady s (s.setLines (Vector.ofFn fun n => { s.lines[n] with run := s.runAfter pins n })) :=
    steady_setLines fun n => by simp
  have hfold := hrun.trans (steady_foldl_changeLine (s.changeOrder pins) _)
  simp only [State.sampleLines]
  split
  · exact hfold.trans (steady_setChoice _ _)
  · exact hfold

theorem steady_sample (s : State) (pins : BitVec 32) : Steady s (s.sample pins) :=
  (steady_setTime s _).trans (steady_sampleLines _ pins)

end Sys2Proof.Machine
end

section
/-! The Weigh Channel keeps the charges legal (R77): every ply list sums to its total, and the heads and their OPEN
charges name each other. -/

namespace Sys2Proof.Machine

@[simp] theorem getElem_ofFn_fin {α : Type} {n : Nat} (f : Fin n → α) (i : Fin n) : (Vector.ofFn f)[i] = f i := by
  simp

/-- The charge law with the head of an OPEN charge named. -/
theorem Weigh.chargesLegal_iff (w : Weigh) : w.ChargesLegal ↔
    (∀ i : Fin 6, w.charges[i].total = ((w.charges[i].plies.sum : Nat) : Int))
      ∧ (∀ (k : Fin 4) (i : Fin 6), w.heads[k].held = some i →
          w.charges[i].state = .opened ∧ w.charges[i].head = k)
      ∧ ∀ (i : Fin 6) (k : Fin 4), w.charges[i].state = .opened → w.charges[i].head = k →
          w.heads[k].held = some i := by
  refine and_congr_right fun _ => and_congr_right fun _ => forall_congr' fun i => ⟨?_, fun h hs => h _ hs rfl⟩
  rintro h k hs rfl
  exact h hs

/-- The charge law reads the slots and what each head holds. -/
theorem Weigh.ChargesLegal.congr {v w : Weigh} (h : v.ChargesLegal) (hcharges : w.charges = v.charges)
    (hheld : ∀ k : Fin 4, w.heads[k].held = v.heads[k].held) : w.ChargesLegal := by
  rw [Weigh.chargesLegal_iff] at h ⊢
  obtain ⟨htotal, hopen, hback⟩ := h
  refine ⟨fun i => ?_, fun k i => ?_, fun i k => ?_⟩
  · rw [hcharges]; exact htotal i
  · rw [hcharges, hheld]; exact hopen k i
  · rw [hcharges, hheld]; exact hback i k

/-- A slot replaced by one of the same state and head, its total the sum of its plies. -/
theorem Weigh.ChargesLegal.setCharge {w : Weigh} (h : w.ChargesLegal) {i : Fin 6} {c : ChargeSlot}
    (htotal : c.total = ((c.plies.sum : Nat) : Int)) (hstate : c.state = w.charges[i].state)
    (hhead : c.head = w.charges[i].head) : ({ w with charges := w.charges.set i c } : Weigh).ChargesLegal := by
  rw [Weigh.chargesLegal_iff] at h ⊢
  obtain ⟨hsum, hopen, hback⟩ := h
  have hboth : ∀ j : Fin 6, (w.charges.set i c)[j].state = w.charges[j].state
      ∧ (w.charges.set i c)[j].head = w.charges[j].head := fun j => by
    rw [getElem_set_fin]
    split
    · next hj => rw [hj]; exact ⟨hstate, hhead⟩
    · exact ⟨rfl, rfl⟩
  refine ⟨fun j => ?_, fun k j => ?_, fun j k => ?_⟩
  · dsimp only
    rw [getElem_set_fin]
    split
    · exact htotal
    · exact hsum j
  · dsimp only
    rw [(hboth j).1, (hboth j).2]
    exact hopen k j
  · dsimp only
    rw [(hboth j).1, (hboth j).2]
    exact hback j k

/-- The OPEN charge of a head ends: the slot leaves OPEN and the head lets go of it (R83, R84). -/
theorem Weigh.ChargesLegal.endCharge {w : Weigh} (hw : w.ChargesLegal) {h : Fin 4} {i : Fin 6} {c : ChargeSlot}
    {x : Head} (hheld : w.heads[h].held = some i) (htotal : c.total = ((c.plies.sum : Nat) : Int))
    (hstate : c.state ≠ .opened) (hx : x.held = none) :
    ({ w with charges := w.charges.set i c, heads := w.heads.set h x } : Weigh).ChargesLegal := by
  rw [Weigh.chargesLegal_iff] at hw ⊢
  obtain ⟨hsum, hopen, hback⟩ := hw
  refine ⟨fun j => ?_, fun k j => ?_, fun j k => ?_⟩
  · dsimp only
    rw [getElem_set_fin]
    split
    · exact htotal
    · exact hsum j
  · dsimp only
    rw [getElem_set_fin, getElem_set_fin]
    split
    · simp [hx]
    · next hk =>
      intro hj
      have hji : j ≠ i := by
        rintro rfl
        exact hk ((hopen k j hj).2.symm.trans (hopen h j hheld).2)
      rw [if_neg hji]
      exact hopen k j hj
  · dsimp only
    rw [getElem_set_fin]
    split
    · exact fun hc => absurd hc hstate
    · next hj =>
      intro hopened hhead
      have hkeep := hback j k hopened hhead
      have hne : k ≠ h := by
        rintro rfl
        exact hj (Option.some.inj (hkeep.symm.trans hheld))
      rw [getElem_set_fin, if_neg hne]
      exact hkeep

theorem steady_setHead {s : State} {h : Fin 4} {x : Head} (hheld : x.held = s.weigh.heads[h].held) :
    Steady s (s.setHead h x) := by
  refine steady_setWeigh fun hw => hw.congr rfl fun k => ?_
  dsimp only
  rw [getElem_set_fin]
  split
  · next hk => rw [hk]; exact hheld
  · rfl

theorem steady_suspectCharge {s : State} {h : Fin 4} {i : Fin 6} (hheld : s.weigh.heads[h].held = some i)
    (reason : ChargeReason) : Steady s (s.suspectCharge h i reason) := by
  refine .trans ?_ (steady_raise _ _ _ _)
  exact steady_setWeigh fun hw => hw.endCharge hheld (hw.1 i) (by simp) rfl

theorem ChargeSlot.addPly_total {c : ChargeSlot} (h : c.total = ((c.plies.sum : Nat) : Int)) {diff : Int}
    (hdiff : 0 ≤ diff) (weight : Int) :
    (c.addPly diff weight).total = (((c.addPly diff weight).plies.sum : Nat) : Int) := by
  simp only [ChargeSlot.addPly, List.sum_append, List.sum_cons, List.sum_nil, Nat.cast_add]
  rw [h]
  omega

theorem List.sum_eq_dropLast_add_getLastD (l : List Nat) : l.sum = l.dropLast.sum + l.getLastD 0 := by
  induction l using List.reverseRecOn with
  | nil => rfl
  | append_singleton l x => simp

theorem ChargeSlot.dropPly_total {c : ChargeSlot} (h : c.total = ((c.plies.sum : Nat) : Int)) (weight : Int) :
    (c.dropPly weight).total = (((c.dropPly weight).plies.sum : Nat) : Int) := by
  have hlast := List.sum_eq_dropLast_add_getLastD c.plies
  simp only [ChargeSlot.dropPly]
  omega

/-- A settled weight offered to the head's own OPEN charge (R81 to R83). -/
theorem steady_capture {s : State} {h : Fin 4} {i : Fin 6} (hheld : s.weigh.heads[h].held = some i) (weight : Int) :
    Steady s (s.capture h i weight) := by
  simp only [State.capture]
  split
  · next hleast =>
    split
    · exact steady_suspectCharge hheld _
    · split
      · exact steady_suspectCharge hheld _
      · exact steady_setWeigh fun hw => hw.setCharge (ChargeSlot.addPly_total (hw.1 i) (by omega) weight) rfl rfl
  · split
    · split
      · exact steady_setWeigh fun hw => hw.setCharge (ChargeSlot.dropPly_total (hw.1 i) weight) rfl rfl
      · exact steady_suspectCharge hheld _
    · exact .refl s

theorem steady_headMiss (s : State) (h : Fin 4) : Steady s (s.headMiss h) := by
  have hmiss : Steady s (s.setHead h s.weigh.heads[h].miss) := steady_setHead rfl
  simp only [State.headMiss]
  split
  · have hraise := hmiss.trans (steady_raise _ .headSilent (byteOf h.val) 0)
    split
    · next i hi =>
      refine hraise.trans (steady_suspectCharge ?_ _)
      simp only [State.raise_weigh, State.setHead_weigh, getElem_set_self_fin]
      exact hi
    · exact hraise
  · exact hmiss

theorem steady_headAnswer (s : State) (h : Fin 4) (a : Answer) : Steady s (s.headAnswer h a) := by
  have hanswer : Steady s (s.setHead h (s.weigh.heads[h].answer a s.cell.settle)) := steady_setHead rfl
  simp only [State.headAnswer]
  split
  · next hheld => exact hanswer.trans (steady_capture hheld _)
  · exact hanswer

theorem steady_discardAnswer (s : State) (h : Fin 4) (kind : Byte) : Steady s (s.discardAnswer h kind) := by
  refine .trans ?_ (steady_headMiss _ _)
  refine .trans ?_ (steady_raise _ _ _ _)
  exact steady_setHead rfl

theorem steady_closeSlot (s : State) : Steady s s.closeSlot := steady_setWeigh id

theorem steady_noAnswer (s : State) : Steady s s.noAnswer := by
  unfold State.noAnswer
  split
  · exact .refl s
  · split
    · exact steady_closeSlot s
    · exact (steady_closeSlot s).trans (steady_headMiss _ _)

theorem steady_startSlot (s : State) : Steady s s.startSlot := by
  simp only [State.startSlot]
  split
  · exact steady_noAnswer s
  · exact (steady_noAnswer s).trans (steady_setWeigh id)

theorem steady_endAnswer (s : State) (chars : List RxChar) : Steady s (s.endAnswer chars) := by
  have hreceive : Steady s (s.receiveAnswer chars) := steady_setWeigh id
  simp only [State.endAnswer]
  split
  · exact .refl s
  · split
    · exact hreceive
    · split
      · exact hreceive.trans (steady_headAnswer _ _ _)
      · exact hreceive.trans (steady_discardAnswer _ _ _)

theorem steady_endSlot (s : State) (answer : Option (List RxChar)) : Steady s (s.endSlot answer) := by
  unfold State.endSlot
  split
  · exact steady_endAnswer s _
  · exact steady_noAnswer s

/-- A slot that leaves OPEN only to leave it stays out of it: expiry touches COMPLETE slots alone (R85). -/
theorem steady_expireCharges (s : State) : Steady s s.expireCharges := by
  refine .trans ?_ (steady_report _ _)
  refine steady_setWeigh fun hw => ?_
  rw [Weigh.chargesLegal_iff] at hw ⊢
  obtain ⟨hsum, hopen, hback⟩ := hw
  refine ⟨fun i => ?_, fun k i => ?_, fun i k => ?_⟩ <;> dsimp only <;> rw [getElem_ofFn_fin]
  · split
    · exact hsum i
    · exact hsum i
  · intro hk
    obtain ⟨hstate, hhead⟩ := hopen k i hk
    have hlive : s.weigh.charges[i].outlived s.time = false := by simp [ChargeSlot.outlived, hstate, -Fin.getElem_fin]
    rw [hlive]
    exact ⟨hstate, hhead⟩
  · split
    · exact fun hc => by cases hc
    · exact hback i k

/-! ## Head channel commands (R78 to R86) -/

theorem steady_openSlot {s : State} {h : Fin 4} {i : Fin 6} (hheld : s.weigh.heads[h].held = none)
    (hfree : s.weigh.charges[i].state = .free) (r : Nat) (e : RecipeEntry) (weight : Int) :
    Steady s (s.openSlot h i r e weight) := by
  refine steady_setWeigh fun hw => ?_
  rw [Weigh.chargesLegal_iff] at hw ⊢
  obtain ⟨hsum, hopen, hback⟩ := hw
  refine ⟨fun j => ?_, fun k j => ?_, fun j k => ?_⟩
  · dsimp only
    rw [getElem_set_fin]
    split
    · rfl
    · exact hsum j
  · dsimp only
    rw [getElem_set_fin, getElem_set_fin]
    split
    · next hk =>
      rintro ⟨⟩
      rw [if_pos rfl]
      exact ⟨rfl, hk.symm⟩
    · intro hj
      have hji : j ≠ i := by
        rintro rfl
        exact absurd (hfree.symm.trans (hopen k j hj).1) (by decide)
      rw [if_neg hji]
      exact hopen k j hj
  · dsimp only
    rw [getElem_set_fin]
    split
    · next hj =>
      rintro - rfl
      rw [getElem_set_self_fin, hj]
    · intro hopened hhead
      have hkeep := hback j k hopened hhead
      have hne : k ≠ h := by
        rintro rfl
        cases hheld.symm.trans hkeep
      rw [getElem_set_fin, if_neg hne]
      exact hkeep

theorem Weigh.freeSlot_free {w : Weigh} {i : Fin 6} (h : w.freeSlot = some i) : w.charges[i].state = .free := by
  simpa using List.find?_some h

theorem steady_openCharge (s : State) (h : Fin 4) (r : Nat) : Steady s (s.openCharge h r).2 := by
  unfold State.openCharge
  split
  · exact .refl s
  · split
    · exact .refl s
    · split
      · exact .refl s
      · split
        · exact .refl s
        · split
          · exact .refl s
          · split
            · exact .refl s
            · next hnone =>
              split
              · exact .refl s
              · exact .refl s
              · next hfree =>
                exact steady_openSlot (by simpa using hnone) (Weigh.freeSlot_free hfree) _ _ _

theorem steady_judgeCharge {s : State} {h : Fin 4} {i : Fin 6} (hheld : s.weigh.heads[h].held = some i) :
    Steady s (s.judgeCharge h i) := by
  have hend (x : ChargeState) (hx : x ≠ .opened) : Steady s ((s.setCharge i { s.weigh.charges[i] with
      state := x, reason := s.weigh.charges[i].judge, completed := s.time }).setHead h
      { s.weigh.heads[h] with held := none }) :=
    steady_setWeigh fun hw => hw.endCharge hheld (hw.1 i) hx rfl
  simp only [State.judgeCharge]
  split
  · exact (hend .complete (by decide)).trans (steady_raise _ _ _ _)
  · exact (hend .rejected (by decide)).trans (steady_raise _ _ _ _)

theorem steady_closeCharge (s : State) (h : Fin 4) : Steady s (s.closeCharge h).2 := by
  unfold State.closeCharge
  split
  · exact .refl s
  · split
    · exact .refl s
    · next hheld => exact steady_judgeCharge hheld

theorem steady_freeCharge (s : State) (i : Fin 6) : Steady s (s.freeCharge i) := by
  refine steady_setWeigh fun hw => ?_
  rw [Weigh.chargesLegal_iff] at hw ⊢
  obtain ⟨hsum, hopen, hback⟩ := hw
  refine ⟨fun j => ?_, fun k j => ?_, fun j k => ?_⟩
  · dsimp only
    rw [getElem_set_fin]
    split
    · exact hsum i
    · exact hsum j
  · dsimp only
    rw [getElem_ofFn_fin]
    split
    · exact fun hk => by cases hk
    · next hk =>
      intro hj
      rw [getElem_set_fin, if_neg fun hji => hk (by rw [hj, hji])]
      exact hopen k j hj
  · dsimp only
    rw [getElem_set_fin]
    split
    · exact fun hc => by cases hc
    · next hj =>
      intro hopened hhead
      have hkeep := hback j k hopened hhead
      rw [getElem_ofFn_fin, if_neg fun hk => hj (Option.some.inj (hkeep.symm.trans hk))]
      exact hkeep

theorem steady_discardCharge (s : State) (n : Nat) : Steady s (s.discardCharge n).2 := by
  unfold State.discardCharge
  split
  · split
    · exact .refl s
    · exact steady_freeCharge s _
  · exact .refl s

/-! ## The switch of a commit (R73, R90) -/

theorem Head.switch_held (x : Head) (old new : CellMap) (h : Fin 4) : (x.switch old new h).held = x.held := by
  simp only [Head.switch]
  split_ifs <;> rfl

theorem Weigh.ChargesLegal.switch {w : Weigh} (h : w.ChargesLegal) (old new : CellMap) (first : Bool) :
    (w.switch old new first).ChargesLegal :=
  h.congr rfl fun k => by simp [Weigh.switch, Head.switch_held]

end Sys2Proof.Machine
end

section
/-! The link, the zones and the owners of the command channels keep the legal parts. -/

namespace Sys2Proof.Machine

/-! ## The sweep end (R10) -/

theorem steady_takeLink (s : State) (x : LinkStep) : Steady s (s.takeLink x) := by
  have hlink := (steady_setLink s x.link).trans (steady_report _ x.reports)
  simp only [State.takeLink]
  split
  · exact hlink.trans (steady_complete _ _ _)
  · exact hlink

theorem Daylight.holdsAs_mapRecord (c : Daylight) (f : OpenRecord → OpenRecord) :
    c.HoldsAs { c with record := c.record.map f } :=
  ⟨rfl, .rfl, by simp⟩

theorem steady_zoneUnit (s : State) (reports : Vector ModuleReport 10) : Steady s (s.zoneUnit reports) := by
  refine ((steady_setZones s _).trans (steady_report _ _)).trans (steady_setDays fun d => ?_)
  rw [getElem_ofFn_fin, State.report_days, State.setZones_days]
  exact Daylight.holdsAs_mapRecord _ _

/-- The dose step moves a daylight between CURING, CURED and FAULTED, and leaves its reservation and its record open. -/
theorem Daylight.doseStep_holdsAs (c : Daylight) (closed : Bool) (readings : Option (List Nat)) (now : Time) :
    c.HoldsAs (c.doseStep closed readings now) := by
  have hsweep : ∀ r, (c.sweep r).reserved = c.reserved ∧ (c.sweep r).state = c.state
      ∧ (c.sweep r).record = c.record := fun r => by cases r <;> exact ⟨rfl, rfl, rfl⟩
  obtain ⟨hreserved, hstate, hrecord⟩ := hsweep readings
  unfold Daylight.doseStep
  split
  · next hc =>
    simp only [Daylight.judge]
    split_ifs <;>
      simp [Daylight.HoldsAs, Daylight.toCured, Daylight.toFaulted, hreserved, hstate, hrecord, hc]
  · split
    · exact ⟨hreserved, by rw [hstate], by rw [hstate, hrecord]; exact id⟩
    · exact .refl c
  all_goals exact .refl c

theorem Daylight.HoldsAs.trans {a b c : Daylight} (h : a.HoldsAs b) (h' : b.HoldsAs c) : a.HoldsAs c :=
  ⟨h'.1.trans h.1, h'.2.1.trans h.2.1, h'.2.2 ∘ h.2.2⟩

theorem Daylight.markDegraded_holdsAs (c : Daylight) (l : LinkState) : c.HoldsAs (c.markDegraded l) := by
  unfold Daylight.markDegraded
  split
  · exact c.holdsAs_mapRecord _
  · exact .refl c

theorem steady_daylightUnit (s : State) : Steady s s.daylightUnit := by
  refine .trans (steady_setDays fun d => ?_) (steady_report _ _)
  rw [getElem_ofFn_fin]
  exact (Daylight.doseStep_holdsAs _ _ _ _).trans (Daylight.markDegraded_holdsAs _ _)

theorem steady_sweepEnd (s : State) : Steady s s.sweepEnd :=
  (((steady_takeLink s _).trans (steady_zoneUnit _ _)).trans (steady_daylightUnit _)).trans (steady_setLink _ _)

theorem steady_sweepWhen (s : State) (due : Bool) : Steady s (s.sweepWhen due) := by
  unfold State.sweepWhen
  split
  · exact steady_sweepEnd s
  · exact .refl s

theorem steady_receive (s : State) (bytes : List Byte) : Steady s (s.receive bytes) := by
  unfold State.receive
  split
  · exact .refl s
  · exact steady_setLink s _

/-! ## Setpoint writes (R32 to R37) -/

theorem steady_zoneWrite (s : State) (z : Fin 40) (value : Nat) : Steady s (s.zoneWrite z value) := by
  unfold State.zoneWrite
  split
  · exact steady_raise s _ _ _
  · split
    · exact .refl s
    · exact (steady_setZones s _).trans (steady_noteChange _ _ _ _ _)

theorem steady_platenWrite (s : State) (p : Fin 5) (value : Nat) : Steady s (s.platenWrite p value) := by
  unfold State.platenWrite
  split
  · exact steady_raise s _ _ _
  · split
    · exact .refl s
    · exact (steady_setZones s _).trans (steady_noteChange _ _ _ _ _)

/-! ## Daylight commands (R45 to R64) -/

theorem steady_carryLoad {s : State} {d : Fin 4} (hvacant : s.days[d].state = .vacant) (i : Fin 6) :
    Steady s (s.carryLoad d i) := by
  refine .trans ?_ (steady_freeCharge _ i)
  refine .trans ?_ (steady_setDay ⟨rfl, ?_, ?_⟩)
  · refine .trans ?_ (steady_inject _ _)
    exact steady_setHist id rfl rfl
  · rw [State.inject_days, State.setHist_days, hvacant]
    simp [Daylight.loadFrom]
  · simp [Daylight.loadFrom]

theorem steady_loadDecision (s : State) (d : Fin 4) (n : Nat) : Steady s (s.loadDecision d n).2 := by
  unfold State.loadDecision
  split
  · exact .refl s
  · split
    · exact .refl s
    · next hvacant =>
      split
      · unfold State.loadSlot
        split_ifs
        · exact .refl s
        · exact .refl s
        · exact .refl s
        · exact .refl s
        · exact steady_carryLoad (not_not.mp hvacant) _
      · exact .refl s

/-- The state of a granted DEMOULD in every part that the laws read: the reservation, the daylight and the sequence
begin together (R58, R100). -/
theorem steady_carryDemould {s : State} {d : Fin 4} (hcured : s.days[d].state = .cured)
    (hclosed : s.level (.closed d) = false) (hstop : s.level .cellStop = false) (hroom : s.hist.mayReserve = true)
    (stamp : Stamp) : Steady s (s.carryDemould d stamp) := by
  have hkeeps : Keeps s (s.carryDemould d stamp) := by
    refine .trans ?_ (keeps_setSeq _ d _)
    refine .trans ?_ (keeps_setSeq _ d _)
    refine .trans ?_ (keeps_setDay _ d _)
    exact .trans (steady_startTimed s _ stamp).toKeeps (keeps_setHist id)
  have hseqs : ∃ q : Sequencer, q.phase = .extending ∧ (s.carryDemould d stamp).seqs = s.seqs.set d q :=
    ⟨_, rfl, by simp [State.carryDemould, State.startStroke, State.enterExtending]; rfl⟩
  obtain ⟨q, hq, hseqs⟩ := hseqs
  have hdays : (s.carryDemould d stamp).days
      = s.days.set d { s.days[d] with state := .demoulding, reserved := true } := rfl
  refine ⟨hkeeps, rfl, fun hb => ?_, fun he e => ?_⟩
  · rw [State.backlogLegal_iff] at hb ⊢
    obtain ⟨hcap, hcount, hall⟩ := hb
    obtain ⟨hreserved, -, hrecord⟩ := hall d
    have hfree : s.days[d].reserved = false := by
      rw [Bool.eq_false_iff, ne_eq, hreserved, hcured]
      decide
    have hset := reservedCount_set s.days d { s.days[d] with state := .demoulding, reserved := true }
    simp only [hfree, Bool.toNat_true, Bool.toNat_false] at hset
    have hhist : (s.carryDemould d stamp).hist = { s.hist with reserved := s.hist.reserved + 1 } := rfl
    have hlt : s.hist.occupied + s.hist.reserved < Config.backlogCap := by simpa [History.mayReserve] using hroom
    refine ⟨by rw [hhist]; dsimp only; omega, by rw [hhist, hdays]; dsimp only; omega, fun e => ?_⟩
    rw [hdays, hseqs, getElem_set_fin, getElem_set_fin]
    split
    · refine ⟨by simp, by simp [hq], ?_⟩
      simp [hrecord, hcured, -Fin.getElem_fin]
    · exact hall e
  · intro hrun
    have hlevels : ∀ f, (s.carryDemould d stamp).level f = s.level f := fun f => State.level_congr rfl rfl f
    rw [hlevels, hlevels]
    rw [hseqs, getElem_set_fin] at hrun
    split at hrun
    · next hed => rw [hed]; exact ⟨hclosed, hstop⟩
    · exact he e hrun

theorem steady_demouldDecision (s : State) (d : Fin 4) (stamp : Stamp) : Steady s (s.demouldDecision d stamp).2 := by
  unfold State.demouldDecision
  split_ifs with henable hcured hclosed hstop hejected hroom
  · exact .refl s
  · exact .refl s
  · exact .refl s
  · exact .refl s
  · exact .refl s
  · exact .refl s
  · exact steady_carryDemould (not_not.mp hcured) (by simpa using hclosed) (by simpa using hstop)
      (by simpa using hroom) stamp

theorem steady_abortDecision (s : State) (d : Fin 4) (stamp : Stamp) : Steady s (s.abortDecision d stamp).2 := by
  unfold State.abortDecision
  split_ifs
  · exact .refl s
  · exact .refl s
  · exact (steady_startAbort s _ stamp).trans (steady_abortStroke _ d)

/-- A close against a reservation granted for it (R63, R64): the daylight is not DEMOULDING and holds a record. -/
theorem steady_reserve_closeRecord {s : State} {d : Fin 4} (hvacant : s.days[d].state ≠ .vacant)
    (hstroke : s.days[d].state ≠ .demoulding) (hroom : s.hist.mayReserve = true) (o : RecordOutcome) :
    Steady s (s.reserve.closeRecord d o) := by
  have hreserve : Keeps s s.reserve := keeps_setHist id
  have hlt : s.hist.occupied + s.hist.reserved < Config.backlogCap := by simpa [History.mayReserve] using hroom
  refine ⟨hreserve.trans (keeps_closeRecord _ d o), by simp, fun hb => ?_,
    fun he => he.congr (by simp) (by simp) (by simp)⟩
  rw [State.backlogLegal_iff] at hb ⊢
  obtain ⟨hcap, hcount, hall⟩ := hb
  obtain ⟨hreserved, hseq, hrecord⟩ := hall d
  obtain ⟨r, hr⟩ := Option.isSome_iff_exists.mp (hrecord.mpr hvacant)
  have hfree : s.days[d].reserved = false := by
    rw [Bool.eq_false_iff, ne_eq, hreserved]
    exact hstroke
  have hset := reservedCount_set s.days d s.days[d].closed
  simp only [hfree, Daylight.closed, Bool.toNat_false] at hset
  have hrecord' : s.reserve.days[d].record = some r := hr
  rw [State.closeRecord_occupied hrecord', State.closeRecord_reserved hrecord', State.closeRecord_days hrecord']
  simp only [State.reserve_hist, State.reserve_days, Nat.add_sub_cancel]
  refine ⟨by omega, by simp only [Daylight.closed]; omega, fun e => ?_⟩
  rw [State.closeRecord_seqs, State.reserve_seqs, getElem_set_fin]
  split
  · next hed =>
    subst hed
    have hidle : ¬ s.seqs[e].phase ≠ .idle := by rw [hseq]; exact hstroke
    exact ⟨by simp [Daylight.closed], by simp [hidle, Daylight.closed, -Fin.getElem_fin], by simp [Daylight.closed]⟩
  · exact hall e

theorem steady_scrapDecision (s : State) (d : Fin 4) : Steady s (s.scrapDecision d).2 := by
  unfold State.scrapDecision
  split_ifs with henable hstate hroom
  · exact .refl s
  · exact .refl s
  · exact .refl s
  · refine steady_reserve_closeRecord (fun h => hstate ?_) (fun h => hstate ?_) (by simpa using hroom) _
    · rw [h]; rfl
    · rw [h]; rfl

theorem steady_manualDecision (s : State) (d : Fin 4) : Steady s (s.manualDecision d).2 := by
  unfold State.manualDecision
  split_ifs with henable hstate hroom
  · exact .refl s
  · exact .refl s
  · exact .refl s
  · have hfaulted := not_not.mp hstate
    exact steady_reserve_closeRecord (by rw [hfaulted]; decide) (by rw [hfaulted]; decide) (by simpa using hroom) _

theorem steady_dayCommand (s : State) (d : Fin 4) (stamp : Stamp) : Steady s (s.dayCommand d stamp).2 := by
  unfold State.dayCommand
  split_ifs
  · exact steady_loadDecision s d _
  · exact steady_demouldDecision s d stamp
  · exact steady_abortDecision s d stamp
  · exact steady_scrapDecision s d
  · exact steady_manualDecision s d
  · exact .refl s

/-! ## The other owners -/

theorem steady_headCommand (s : State) (h : Fin 4) (stamp : Stamp) : Steady s (s.headCommand h stamp).2 := by
  unfold State.headCommand
  split_ifs
  · exact steady_openCharge s h _
  · exact steady_closeCharge s h
  · exact steady_discardCharge s _
  · exact .refl s

theorem steady_linkCommand (s : State) (stamp : Stamp) : Steady s (s.linkCommand stamp).2 := by
  unfold State.linkCommand
  split
  · exact (steady_startTimed s _ stamp).trans (steady_takeLink _ _)
  · exact .refl s

theorem steady_linesCommand (s : State) (stamp : Stamp) : Steady s (s.linesCommand stamp).2 := by
  unfold State.linesCommand State.setLineDecision
  split_ifs
  · exact .refl s
  · refine steady_setLines fun n => ?_
    rw [getElem_set_fin]
    split
    · next hn => rw [hn]; rfl
    · rfl
  · exact .refl s
  · exact .refl s

/-- Whatever the owner decides (R177), the legal parts stay. -/
theorem steady_ownerDecision (s : State) (c : Fin 10) (stamp : Stamp) : Steady s (s.ownerDecision c stamp).2 := by
  unfold State.ownerDecision
  split
  · exact steady_dayCommand s _ stamp
  · exact steady_headCommand s _ stamp
  · exact steady_linkCommand s stamp
  · exact steady_linesCommand s stamp

end Sys2Proof.Machine
end

section
/-! The Map Unit, the Memory Passage and the commands keep the legal parts; every step does. -/

namespace Sys2Proof.Machine

/-! ## Commits (R162 to R172) -/

theorem steady_startCommit (s : State) (generation : BitVec 16) : Steady s (s.startCommit generation) := by
  refine .trans ?_ (steady_setPass id)
  exact steady_setMaps rfl

theorem steady_startFetch (s : State) : Steady s s.startFetch := by
  unfold State.startFetch
  split
  · exact steady_setMaps rfl
  · exact .refl s

theorem steady_endCommit (s : State) : Steady s s.endCommit := by
  unfold State.endCommit
  split
  · refine .trans ?_ (steady_appendTest _)
    exact steady_setMaps rfl
  · exact .refl s

theorem steady_abandonCommit (s : State) : Steady s s.abandonCommit := by
  unfold State.abandonCommit
  split
  · exact .refl s
  · refine .trans ?_ (steady_setPass id)
    exact steady_setMaps rfl

theorem steady_refuseCommit (s : State) (reason : CommitReason) : Steady s (s.refuseCommit reason) := by
  refine .trans ?_ (steady_appendTest _)
  refine .trans ?_ (steady_raise _ _ _ _)
  refine .trans ?_ (steady_inject _ _)
  exact steady_setMaps rfl

theorem Line.switch_self (l : Line) (e : LineEntry) : l.switch e e = l := by
  simp [Line.switch]

/-- Without an append in progress the switch may replace the ring and the write index (R125). -/
theorem History.AppendLegal.switch {h : History} (hl : h.AppendLegal) (hnone : h.append = none) (old new : CellMap)
    (first : Bool) (copy : List Word) : (h.switch old new first copy).AppendLegal := by
  refine ⟨hl.1, fun w hw => ?_⟩
  rw [History.switch] at hw
  cases hnone.symm.trans hw

theorem keeps_switchBlocks {s : State} (hnone : s.hist.append = none) (old : CellMap) (first : Bool)
    (copy : List Word) : Keeps s (s.switchBlocks old first copy) := by
  refine .trans ?_ (steady_setPass ?queue).toKeeps
  case queue => simp only [State.setLines_pass, State.setWeigh_pass, State.setZones_pass, State.setHist_pass,
    State.setAtt_pass]; exact id
  refine .trans ?_ (keeps_setLines _ _)
  refine .trans ?_ (steady_setWeigh ?charges).toKeeps
  case charges =>
    simp only [State.setZones_weigh, State.setHist_weigh, State.setAtt_weigh]
    exact fun hw => hw.switch _ _ _
  refine .trans ?_ (steady_setZones _ _).toKeeps
  refine .trans ?_ (keeps_setHist fun ha => ha.switch hnone _ _ _ _)
  refine (steady_setAtt ?_).toKeeps
  exact id

@[simp] theorem State.switchBlocks_maps (s : State) (old : CellMap) (first : Bool) (copy : List Word) :
    (s.switchBlocks old first copy).maps = s.maps := by simp [State.switchBlocks]
@[simp] theorem State.switchBlocks_days (s : State) (old : CellMap) (first : Bool) (copy : List Word) :
    (s.switchBlocks old first copy).days = s.days := by simp [State.switchBlocks]
@[simp] theorem State.switchBlocks_seqs (s : State) (old : CellMap) (first : Bool) (copy : List Word) :
    (s.switchBlocks old first copy).seqs = s.seqs := by simp [State.switchBlocks]
@[simp] theorem State.switchBlocks_hist (s : State) (old : CellMap) (first : Bool) (copy : List Word) :
    (s.switchBlocks old first copy).hist = s.hist.switch old s.cell first copy := by
  simp [State.switchBlocks, State.cell]

/-- A line whose entry stays keeps its level, so that under one map the switch moves no level (R108). -/
theorem State.switchBlocks_lines_of_cell {s : State} {old : CellMap} (h : s.cell = old) (first : Bool)
    (copy : List Word) : (s.switchBlocks old first copy).lines = s.lines := by
  simp only [State.switchBlocks, State.setPass_lines, State.setLines_lines, h, Line.switch_self]
  exact Vector.ext fun i hi => by simp

/-- The switch replaces the map, and keeps the rest. -/
theorem stepKeeps_switchBlocks {s : State} (hnone : s.hist.append = none) :
    StepKeeps s ((s.setMaps s.maps.switched).switchBlocks s.cell s.maps.first s.maps.copy) := by
  have hnone' : (s.setMaps s.maps.switched).hist.append = none := by rw [State.setMaps_hist]; exact hnone
  refine ⟨(keeps_setMaps s _).trans (keeps_switchBlocks hnone' _ _ _), fun hb => hb.congr ?_ ?_ ?_ ?_,
    fun hmap he => ?_⟩
  iterate 4 simp [History.switch]
  rw [State.switchBlocks_maps] at hmap
  refine he.congr (by simp) ?_ ((congrArg MapUnit.map (State.switchBlocks_maps _ _ _ _)).trans hmap)
  exact State.switchBlocks_lines_of_cell (State.cell_congr hmap) _ _

theorem stepKeeps_switchMap {s : State} (hnone : s.hist.append = none) : StepKeeps s s.switchMap := by
  refine (Steady.trans (.trans (.trans ?_ (steady_injectAll _ _)) (steady_raise _ _ _ _)) (steady_appendTest _)).after
    (stepKeeps_switchBlocks hnone)
  unfold State.switchLink
  split
  · exact steady_takeLink _ _
  · exact .refl _

theorem stepKeeps_trySwitch (s : State) : StepKeeps s s.trySwitch := by
  unfold State.trySwitch
  split
  · next h => exact stepKeeps_switchMap h.2
  · exact (Steady.refl s).stepKeeps

theorem stepKeeps_decideCommit (s : State) : StepKeeps s s.decideCommit := by
  unfold State.decideCommit
  split
  · split
    · exact (steady_refuseCommit s _).stepKeeps
    · refine Steady.before ?_ (stepKeeps_trySwitch _)
      exact steady_setMaps rfl
  · exact (Steady.refl s).stepKeeps

/-! ## Dispositions (R143 to R153) -/

theorem steady_takeReadIndex (s : State) (value : Nat) : Steady s (s.takeReadIndex value) := by
  unfold State.takeReadIndex
  split
  · exact .refl s
  · next r hr =>
    split_ifs with hcap happend
    · exact steady_raise s _ _ _
    · exact steady_raise s _ _ _
    · refine .trans ?_ (steady_appendTest _)
      refine steady_setHist ?_ rfl rfl
      rintro ⟨hpos, hlegal⟩
      refine ⟨hpos, fun w hw => ?_⟩
      obtain ⟨hocc, r', hr', hwrite, -⟩ := hlegal w hw
      obtain rfl : r = r' := Option.some.inj (hr.symm.trans hr')
      refine ⟨hocc, _, rfl, hwrite, fun heq => happend ?_⟩
      dsimp only at hw
      simp [hw, heq]

theorem steady_takeCommit (s : State) (a : Access) (data : Word) : Steady s (s.takeCommit a data).2 := by
  simp only [State.takeCommit]
  split_ifs
  · exact steady_raise s _ _ _
  · exact steady_raise s _ _ _
  · exact steady_startCommit s _

theorem steady_takenWord {s : State} {taken : Disposition × State} (h : Steady s taken.2) (a : Access) :
    Steady s (s.takenWord a taken).2 := by
  unfold State.takenWord
  split
  · exact h
  · exact steady_raise s _ _ _

theorem steady_mapPageWrite (s : State) (a : Access) (o : Nat) (data : Word) :
    Steady s (s.mapPageWrite a o data).2 := by
  unfold State.mapPageWrite
  split_ifs
  · exact .refl s
  · exact steady_takenWord (steady_takeCommit s a data) a
  · refine steady_takenWord ?_ a
    exact steady_setAtt id
  · exact steady_takenWord (steady_takeReadIndex s _) a
  · exact .refl s

theorem steady_mapPageRead (s : State) (a : Access) (o : Nat) : Steady s (s.mapPageRead a o).2 := by
  unfold State.mapPageRead
  split_ifs
  · exact .refl s
  · exact steady_setAtt Attention.afterRead_legal
  · exact .refl s
  · exact .refl s

theorem steady_setpointWrite (s : State) (a : Access) (o : Nat) (data : Word) :
    Steady s (s.setpointWrite a o data).2 := by
  unfold State.setpointWrite
  split
  · split
    · exact steady_zoneWrite s _ _
    · exact steady_raise s _ _ _
  · split
    · exact steady_platenWrite s _ _
    · exact steady_raise s _ _ _
  · exact steady_raise s _ _ _

theorem steady_commandWrite (s : State) (a : Access) (o : Nat) (data : Word) :
    Steady s (s.commandWrite a o data).2 := by
  unfold State.commandWrite
  split
  · exact steady_raise s _ _ _
  · split
    · unfold State.channelWrite
      split
      · exact steady_raise s _ _ _
      · exact steady_ownerDecision s _ _
    · exact steady_raise s _ _ _

theorem steady_imageRead (s : State) (o : Nat) : Steady s (s.imageRead o).2 := by
  unfold State.imageRead
  split
  · exact steady_setPass id
  · exact .refl s
  · dsimp only
    split
    · split
      · exact steady_setChoice s _
      · exact .refl s
    · exact .refl s

/-- The taking of an access, whatever its region (R145). -/
theorem steady_classify (s : State) (a : Access) : Steady s (s.classify a).2 := by
  unfold State.classify
  split
  · exact steady_mapPageWrite s a _ _
  · exact steady_mapPageRead s a _
  · exact steady_setpointWrite s a _ _
  · exact .refl s
  · exact steady_raise s _ _ _
  · exact steady_imageRead s _
  · exact steady_commandWrite s a _ _
  · split <;> exact .refl s
  · exact steady_raise s _ _ _
  · unfold State.recordRead
    split <;> exact .refl s
  · exact .refl s

/-! ## The host port (R143, R148, R155) -/

theorem steady_setPort (s : State) (p : Port) (r : Reply) : Steady s (s.setPort p r) := steady_setPass id

theorem steady_dispose (s : State) (a : Access) (d : Disposition) : Steady s (s.dispose a d) := by
  cases d <;> exact steady_setPort s _ _

theorem steady_takeAccess (s : State) (a : Access) : Steady s (s.takeAccess a) := by
  unfold State.takeAccess
  split
  · exact steady_setPort s _ _
  · exact (steady_classify s a).trans (steady_dispose _ a _)

theorem steady_memoryCycle (s : State) (a : Access) : Steady s (s.memoryCycle a) := by
  unfold State.memoryCycle
  split
  · exact (steady_setMem (writeWord_wf _ _ _ _)).trans (steady_setPort _ _ _)
  · exact steady_setPort s _ _

theorem steady_commandReached (s : State) (c : Fin 10) : Steady s (s.commandReached c) := by
  unfold State.commandReached
  split
  · exact .refl s
  · next hbusy =>
    refine .trans (steady_setChan fun h => ?_) (steady_placeStamp _ c)
    obtain ⟨-, hknown⟩ := h
    exact ⟨fun hidle => absurd hidle hbusy, hknown⟩

theorem steady_hostCycle (s : State) (c : Cycle) : Steady s (s.hostCycle c) := by
  unfold State.hostCycle
  split
  · exact (steady_memoryCycle s _).trans (steady_commandReached _ _)
  · exact steady_memoryCycle s _

theorem steady_arbitrate (s : State) : Steady s s.arbitrate := by
  unfold State.arbitrate
  split
  · split
    · exact steady_hostCycle s _
    · exact .refl s
  all_goals exact .refl s

theorem steady_present : ∀ (l : List Access) (s : State), Steady s (s.present l)
  | [], s => steady_setPass id
  | a :: rest, s => by
    unfold State.present
    split
    · exact (((steady_deliver s).trans (steady_takeAccess _ a)).trans (steady_arbitrate _)).trans
        (steady_present rest _)
    · exact steady_setPass id

theorem steady_resumePort (s : State) : Steady s s.resumePort := (steady_arbitrate s).trans (steady_present _ _)

theorem steady_hostAccess (s : State) (a : Access) : Steady s (s.hostAccess a) := steady_present _ s

/-! ## The part side's cycles (R153, R154, R156, R162) -/

/-- The end of an append gives up its slot and its place together (R119). -/
theorem stepKeeps_endAppend (s : State) : StepKeeps s s.endAppend := by
  unfold State.endAppend
  split
  · next r w hr hw =>
    refine (steady_appendTest _).after ?_
    have hfree : StepKeeps s (s.setHist { s.hist with
        write := (w + 1) % r.cap
        occupied := s.hist.occupied - 1
        oldest := nextPosition s.hist.oldest
        append := none }) := by
      refine ⟨keeps_setHist fun ⟨hpos, hlegal⟩ => ⟨?_, fun v hv => by cases hv⟩, fun hb => ?_,
        fun _ he => he.congr rfl rfl rfl⟩
      · obtain ⟨hocc, -⟩ := hlegal w hw
        have hnext : (nextPosition s.hist.oldest).val = (s.hist.oldest.val + 1) % 4 := by
          simp [nextPosition, Fin.val_add]
        dsimp only
        omega
      · obtain ⟨hcap, hrest⟩ := hb
        exact ⟨(Nat.add_le_add_right (Nat.sub_le _ _) _).trans hcap, hrest⟩
    have htry := stepKeeps_trySwitch (s.setHist { s.hist with
        write := (w + 1) % r.cap
        occupied := s.hist.occupied - 1
        oldest := nextPosition s.hist.oldest
        append := none })
    exact ⟨hfree.toKeeps.trans htry.toKeeps, htry.backlog ∘ hfree.backlog,
      fun hmap he => htry.eject hmap (hfree.eject rfl he)⟩
  · exact (Steady.refl s).stepKeeps

theorem stepKeeps_reachedMemory (s : State) (p : Purpose) : StepKeeps s (s.reachedMemory p) := by
  cases p with
  | indexWord => exact stepKeeps_endAppend s
  | stamp c => exact (steady_setChan fun _ => Channel.powerOn_legal).stepKeeps
  | commitStamp => exact (steady_endCommit s).stepKeeps
  | recordWord => exact (Steady.refl s).stepKeeps
  | lastSerial => exact (Steady.refl s).stepKeeps
  | indexZero => exact (Steady.refl s).stepKeeps

theorem stepKeeps_entryReaches {s : State} {e : QEntry} {rest : List QEntry} (hq : s.pass.queue = e :: rest) :
    StepKeeps s (s.entryReaches e rest) := by
  refine ((steady_startFetch _).trans (steady_resumePort _)).after ?_
  refine Steady.before ?_ (stepKeeps_reachedMemory _ _)
  exact (steady_setMem (writeWord_wf _ _ _ _)).trans (steady_setPass (Passage.pop_queueLegal hq))

theorem stepKeeps_injectedWrite (s : State) : StepKeeps s s.injectedWrite := by
  unfold State.injectedWrite
  split
  · exact (Steady.refl s).stepKeeps
  · next hq =>
    split
    · exact stepKeeps_entryReaches hq
    · exact (Steady.refl s).stepKeeps

theorem stepKeeps_purposeReaches (s : State) (p : Purpose) : StepKeeps s (s.purposeReaches p) := by
  unfold State.purposeReaches
  split
  · exact stepKeeps_injectedWrite s
  · exact (Steady.refl s).stepKeeps

theorem steady_releaseFetch (s : State) : Steady s s.releaseFetch := by
  unfold State.releaseFetch
  split
  · exact (steady_setPort s _ _).trans (steady_takeAccess _ _)
  all_goals exact .refl s

theorem steady_endFetch (s : State) : Steady s s.endFetch := by
  refine .trans ?_ (steady_resumePort _)
  refine .trans ?_ (steady_releaseFetch _)
  refine .trans ?_ (steady_setPass id)
  exact steady_setMaps rfl

theorem steady_fetchStep (s : State) : Steady s s.fetchStep := by
  have hread : Steady s (s.setMaps { s.maps with copy := s.maps.copy ++ [s.fetchedWord] }) := steady_setMaps rfl
  simp only [State.fetchStep]
  split
  · split
    · exact hread
    · exact hread.trans (steady_endFetch _)
  · exact .refl s

theorem steady_cellReset (s : State) : Steady s s.cellReset := by
  refine .trans ?_ (steady_resumePort _)
  refine .trans ?_ (steady_releaseFetch _)
  refine .trans ?_ (steady_abandonCommit _)
  exact steady_setPass id

theorem stepKeeps_fetchStarts (s : State) : StepKeeps s s.fetchStarts := by
  unfold State.fetchStarts
  split_ifs
  · exact ((steady_startFetch s).trans (steady_resumePort _)).stepKeeps
  · exact stepKeeps_injectedWrite s
  · exact (Steady.refl s).stepKeeps
  · exact (Steady.refl s).stepKeeps

theorem stepKeeps_switches (s : State) : StepKeeps s s.switches := by
  unfold State.switches
  split
  · split
    · exact stepKeeps_trySwitch s
    · exact stepKeeps_purposeReaches s _
  · split
    · exact stepKeeps_decideCommit s
    · exact (Steady.refl s).stepKeeps
  all_goals exact (Steady.refl s).stepKeeps

theorem steady_placeWaiting (s : State) : Steady s s.placeWaiting := by
  obtain ⟨q, w, h, hlen⟩ := s.pass.fill_spec
  refine .trans (steady_setPass ?_) (steady_resumePort _)
  rw [h]
  exact hlen

/-! ## Resets -/

theorem State.reset_backlogLegal : State.reset.BacklogLegal := by
  simp [State.BacklogLegal, State.reset, History.powerOn, Daylight.powerOn, Sequencer.powerOn]

theorem State.reset_ejectLaw : State.reset.EjectLaw := fun d hd => by
  simp [State.reset, Sequencer.powerOn, Phase.stoppable] at hd

theorem Weigh.powerOn_chargesLegal : Weigh.powerOn.ChargesLegal := by
  simp [Weigh.ChargesLegal, Weigh.powerOn, ChargeSlot.powerOn, Head.powerOn]

theorem History.powerOn_appendLegal : History.powerOn.AppendLegal := by
  simp [History.AppendLegal, History.powerOn]

theorem State.reset_attLegal : State.reset.att.Legal := by
  simp [Attention.Legal, State.reset]

theorem State.reset_queueLegal : State.reset.pass.QueueLegal := Nat.zero_le _

theorem State.reset_chans (c : Fin 10) : State.reset.chans[c] = Channel.powerOn := by
  simp [State.reset]

theorem State.reset_chansLegal (c : Fin 10) : State.reset.chans[c].Legal := by
  rw [State.reset_chans]
  exact Channel.powerOn_legal

/-- Settles O4: each law at reset. -/
theorem resetIsLegal : Obligations.ResetIsLegal :=
  ⟨reset_wf, State.reset_queueLegal, State.reset_attLegal, State.reset_backlogLegal, Weigh.powerOn_chargesLegal,
    History.powerOn_appendLegal, State.reset_chansLegal, State.reset_ejectLaw⟩

/-- Power-on reset leaves the reset state beside a memory that it keeps (R160, log 23). -/
theorem stepKeeps_powerOn (s : State) : StepKeeps s s.powerOn :=
  ⟨⟨rfl, id, fun _ => State.reset_queueLegal, fun _ => State.reset_attLegal, fun _ => Weigh.powerOn_chargesLegal,
    fun _ => History.powerOn_appendLegal, fun _ => State.reset_chansLegal⟩, fun _ => State.reset_backlogLegal,
    fun _ _ => State.reset_ejectLaw⟩

/-! ## Every command -/

/-- A command that ends the step in the state of an operation which keeps the legal parts, reports delivered. -/
def EndsLegally (c : Instr) (s : State) : Prop := ∃ u, exec c s = u.done ∧ StepKeeps s u

theorem Steady.endsLegally {c : Instr} {s u : State} (h : Steady s u) (hexec : exec c s = u.done) : EndsLegally c s :=
  ⟨u, hexec, h.stepKeeps⟩

theorem steady_ite {s u : State} {p : Prop} [Decidable p] (h : Steady s u) : Steady s (if p then u else s) := by
  split
  · exact h
  · exact .refl s

/-- Every command ends the step in a state that one operation of the part leaves. -/
theorem exec_endsLegally (c : Instr) (s : State) : EndsLegally c s := by
  cases c with
  | powerOnReset => exact ⟨_, rfl, stepKeeps_powerOn s⟩
  | cellReset => exact (steady_cellReset s).endsLegally rfl
  | sweepEnd => exact (steady_sweepEnd s).endsLegally rfl
  | returnFrame bytes => exact (steady_receive s bytes).endsLegally rfl
  | moduleLost p => exact (steady_sweepWhen s _).endsLegally rfl
  | linkOffline => exact (steady_sweepWhen s _).endsLegally rfl
  | discoveryShort => exact (steady_sweepWhen s _).endsLegally rfl
  | detailRideLimit => exact (steady_sweepWhen s _).endsLegally rfl
  | zoneStale z => exact (steady_sweepWhen s _).endsLegally rfl
  | setpointNotApplied z => exact (steady_sweepWhen s _).endsLegally rfl
  | cureGap d => exact (steady_sweepWhen s _).endsLegally rfl
  | cureTimeout d => exact (steady_sweepWhen s _).endsLegally rfl
  | restartLink w => exact (steady_hostAccess s _).endsLegally rfl
  | setpointWrite addr enables data => exact (steady_hostAccess s _).endsLegally rfl
  | platenBroadcastWrite addr enables data => exact (steady_hostAccess s _).endsLegally rfl
  | load w => exact (steady_hostAccess s _).endsLegally rfl
  | demould w => exact (steady_hostAccess s _).endsLegally rfl
  | abort w => exact (steady_hostAccess s _).endsLegally rfl
  | scrap w => exact (steady_hostAccess s _).endsLegally rfl
  | manualRelease w => exact (steady_hostAccess s _).endsLegally rfl
  | setLine w => exact (steady_hostAccess s _).endsLegally rfl
  | openCharge w => exact (steady_hostAccess s _).endsLegally rfl
  | closeCharge w => exact (steady_hostAccess s _).endsLegally rfl
  | discardCharge w => exact (steady_hostAccess s _).endsLegally rfl
  | unknownCode addr enables data => exact (steady_hostAccess s _).endsLegally rfl
  | readIndexWrite enables data => exact (steady_hostAccess s _).endsLegally rfl
  | attentionRead => exact (steady_hostAccess s _).endsLegally rfl
  | pendingCountRead => exact (steady_hostAccess s _).endsLegally rfl
  | classMaskWrite enables data => exact (steady_hostAccess s _).endsLegally rfl
  | imageBlockFirstWordRead addr => exact (steady_hostAccess s _).endsLegally rfl
  | recordRead addr => exact (steady_hostAccess s _).endsLegally rfl
  | writeToOwnedWindow addr enables data => exact (steady_hostAccess s _).endsLegally rfl
  | commit enables data => exact (steady_hostAccess s _).endsLegally rfl
  | sample pins => exact (steady_sample s pins).endsLegally rfl
  | debouncedChange n pins => exact (steady_ite (steady_sample s pins)).endsLegally rfl
  | strokeTimeout d =>
    refine ⟨_, rfl, ?_⟩
    split
    · next hdue =>
      simp only [State.timerDue, Bool.and_eq_true, beq_iff_eq] at hdue
      exact ((steady_raise s _ _ _).trans (steady_enterRetracting
        (by rw [State.raise_seqs, hdue.1]; rfl) _)).stepKeeps
    · exact (Steady.refl s).stepKeeps
  | retractTimeout d =>
    refine ⟨_, rfl, ?_⟩
    split
    · next hdue =>
      simp only [State.timerDue, Bool.and_eq_true, beq_iff_eq] at hdue
      exact (steady_strokeFails (by rw [hdue.1]; decide) _).stepKeeps
    · exact (Steady.refl s).stepKeeps
  | dwellExpiry d =>
    refine ⟨_, rfl, ?_⟩
    split
    · next hdue =>
      simp only [State.timerDue, Bool.and_eq_true, beq_iff_eq] at hdue
      exact (steady_dwellOver (by rw [hdue.1]; rfl)).stepKeeps
    · exact (Steady.refl s).stepKeeps
  | finalRetractTimeout d =>
    refine ⟨_, rfl, ?_⟩
    split
    · next hdue =>
      simp only [State.timerDue, Bool.and_eq_true, beq_iff_eq] at hdue
      exact (steady_strokeFails (by rw [hdue.1]; decide) _).stepKeeps
    · exact (Steady.refl s).stepKeeps
  | poll => exact (steady_startSlot s).endsLegally rfl
  | answerWaitExpiry => exact (steady_noAnswer s).endsLegally rfl
  | headSilent h answer => exact (steady_ite (steady_endSlot s answer)).endsLegally rfl
  | answerEnd chars => exact (steady_endAnswer s chars).endsLegally rfl
  | chargeExpired => exact (steady_ite (steady_expireCharges s)).endsLegally rfl
  | stampPlaced c => exact (steady_placeStamp s c).endsLegally rfl
  | completionStampReachesMemory c => exact ⟨_, rfl, stepKeeps_purposeReaches s _⟩
  | queuePlace => exact (steady_placeWaiting s).endsLegally rfl
  | injectedWriteReachesMemory => exact ⟨_, rfl, stepKeeps_injectedWrite s⟩
  | appendBegin => exact (steady_appendTest s).endsLegally rfl
  | appendEnd => exact ⟨_, rfl, stepKeeps_purposeReaches s _⟩
  | commitFetchStart => exact ⟨_, rfl, stepKeeps_fetchStarts s⟩
  | fetchRead => exact (steady_fetchStep s).endsLegally rfl
  | validationDecision => exact ⟨_, rfl, stepKeeps_decideCommit s⟩
  | commitSwitch => exact ⟨_, rfl, stepKeeps_switches s⟩
  | commitStampReachesMemory => exact ⟨_, rfl, stepKeeps_purposeReaches s _⟩

/-- Settles O2: the end of the step delivers every report and leaves the queue of commands alone. -/
theorem everyCommandAnswersNext : Obligations.EveryCommandAnswersNext := by
  intro c s
  obtain ⟨u, hexec, hkeeps⟩ := exec_endsLegally c s
  exact ⟨u.deliver, hexec, u.deliver_pending.trans hkeeps.pending, u.deliver_offers⟩

theorem stepKeeps_exec {c : Instr} {s t : State} (h : exec c s = .next t) : StepKeeps s t := by
  obtain ⟨u, hexec, hkeeps⟩ := exec_endsLegally c s
  obtain rfl : u.deliver = t := by
    rw [hexec, State.done] at h
    exact Host.Outcome.next.inj h
  exact (steady_deliver u).after hkeeps

/-- What every step keeps, the queue of commands apart: with no command nothing changes, with one it is that command's
effect. -/
theorem step_keeps {s t : State} (h : step s = .next t) : ∃ l, StepKeeps (s.setPending l) t := by
  unfold step at h
  split at h
  · obtain rfl := Host.Outcome.next.inj h
    exact ⟨s.pending, (Steady.refl s).stepKeeps⟩
  · next rest _ => exact ⟨rest, stepKeeps_exec h⟩

/-- Settles O1: by the definition of a step. -/
theorem stepRunsTheFrontCommand : Obligations.StepRunsTheFrontCommand := by
  refine ⟨fun c s rest => rfl, fun s hnone => ?_⟩
  rw [step, hnone]

/-- Settles O5: every write of memory is a word write, which keeps the form. -/
theorem memoryKeepsItsForm : Obligations.MemoryKeepsItsForm := fun _ _ hlegal hstep =>
  have ⟨_, hkeeps⟩ := step_keeps hstep
  hkeeps.mem hlegal

/-- Settles O6: an entry is placed only where the queue has room (R154). -/
theorem injectionQueueStaysBounded : Obligations.InjectionQueueStaysBounded := fun _ _ hlegal hstep =>
  have ⟨_, hkeeps⟩ := step_keeps hstep
  hkeeps.queue hlegal

/-- Settles O7: by what taking a report and a read of the attention word do to the set. -/
theorem pendingSetStaysLegal : Obligations.PendingSetStaysLegal := fun _ _ hlegal hstep =>
  have ⟨_, hkeeps⟩ := step_keeps hstep
  hkeeps.att hlegal

/-- Settles O8: reservation, daylight and sequence begin and end together. -/
theorem backlogStaysWithinFour : Obligations.BacklogStaysWithinFour := fun _ _ hlegal hstep =>
  have ⟨_, hkeeps⟩ := step_keeps hstep
  hkeeps.backlog hlegal

/-- Settles O9: a ply joins or leaves its list and its total together, and an OPEN charge ends with its head's hold. -/
theorem chargeTotalsStaySums : Obligations.ChargeTotalsStaySums := fun _ _ hlegal hstep =>
  have ⟨_, hkeeps⟩ := step_keeps hstep
  hkeeps.charges hlegal

/-- Settles O10: the append test starts clear of the read index, and the decision on a read-index write keeps it so. -/
theorem appendStaysClearOfReadIndex : Obligations.AppendStaysClearOfReadIndex := fun _ _ hlegal hstep =>
  have ⟨_, hkeeps⟩ := step_keeps hstep
  hkeeps.append hlegal

/-- Settles O11: each update of a channel record is of a legal one to a legal one. -/
theorem channelRecordsStayLegal : Obligations.ChannelRecordsStayLegal := fun _ _ hlegal hstep =>
  have ⟨_, hkeeps⟩ := step_keeps hstep
  hkeeps.chans hlegal

/-- Settles O12: the ejector law is kept while the map stays, and an EJECT drive belongs to a sequence in EXTENDING,
which can be stopped. -/
theorem ejectLawHoldsUnderOneMap : Obligations.EjectLawHoldsUnderOneMap := by
  intro s t hlaw hstep hmap
  obtain ⟨_, hkeeps⟩ := step_keeps hstep
  have hafter : t.EjectLaw := hkeeps.eject hmap hlaw
  refine ⟨hafter, fun d hdrive => hafter d ?_⟩
  rw [Sequencer.ejectDrive, beq_iff_eq] at hdrive
  rw [hdrive]
  rfl

end Sys2Proof.Machine
end

section
/-! Resets, the return frame, and the owners' refusals. -/

namespace Sys2Proof.Machine

/-! ## The end of a step without reports, and a free port -/

theorem State.done_of_offers_nil {s : State} (h : s.offers = []) : s.done = .next s := by
  rw [State.done, State.deliver_nil h]

/-- A free port has nothing to go on with. -/
theorem State.resumePort_of_idle {s : State} (hport : s.pass.port = .idle) (hup : s.pass.upcoming = []) :
    s.resumePort = s := by
  have harb : s.arbitrate = s := by rw [State.arbitrate, hport]
  rw [State.resumePort, harb, hup, State.present, ← hup]
  rfl

theorem State.releaseFetch_of_idle {s : State} (hport : s.pass.port = .idle) : s.releaseFetch = s := by
  rw [State.releaseFetch, hport]

theorem State.abandonCommit_resume_of_stamping {s : State} (h : s.maps.stage = .stamping) (hport : s.pass.port = .idle)
    (hup : s.pass.upcoming = []) : s.abandonCommit.releaseFetch.resumePort = s := by
  rw [State.abandonCommit, if_pos h, releaseFetch_of_idle hport, resumePort_of_idle hport hup]

theorem State.abandonCommit_resume_of_ne_stamping {s : State} (h : s.maps.stage ≠ .stamping)
    (hport : s.pass.port = .idle) (hup : s.pass.upcoming = []) : s.abandonCommit.releaseFetch.resumePort
      = (s.setMaps { s.maps with stage := .idle, copy := [] }).setPass { s.pass with boundary := none } := by
  rw [State.abandonCommit, if_neg h, releaseFetch_of_idle, resumePort_of_idle]
  · exact hport
  · exact hup
  · exact hport

/-! ## Resets (R157, R160, R173) -/

theorem State.reset_drive (n : Fin 32) : State.reset.drive n = none := by
  simp [State.drive, State.cell, MapUnit.effective, State.reset, CellMap.powerOn, LineEntry.function?]

/-- Settles O3: each value read off the reset state. -/
theorem resetValues : Obligations.ResetValues := by
  refine ⟨⟨rfl, rfl, rfl, rfl, rfl, rfl, rfl, fun p => ?_⟩, fun z => ?_, fun d => ?_, fun d => ?_, fun h => ?_,
    fun i => ?_, rfl, rfl, fun n => ⟨?_, ?_⟩, ⟨rfl, rfl, rfl, rfl, rfl, rfl⟩, ⟨rfl, rfl, rfl, rfl⟩,
    ⟨rfl, rfl, rfl, rfl, rfl, fun b => ?_⟩, ⟨rfl, rfl, rfl, rfl⟩, fun c => ?_⟩
  · simp [State.reset, Link.powerOn, Module.powerOn]
  · simp [State.reset, Zone.powerOn]
  · simp [State.reset, Daylight.powerOn]
  · simp [State.reset, Sequencer.powerOn, Sequencer.ejectDrive]
  · simp [State.reset, Weigh.powerOn, Head.powerOn]
  · simp [State.reset, Weigh.powerOn, ChargeSlot.powerOn]
  · simp [State.reset]
  · rw [State.pinDrive, State.reset_drive]; rfl
  · simp [State.reset, Passage.powerOn]
  · rw [State.reset_chans]; exact ⟨rfl, rfl, rfl, rfl⟩

/-- Settles O13: the reset state beside what is outside the part, with no report to deliver. -/
theorem powerOnResetClearsThePart : Obligations.PowerOnResetClearsThePart := fun s =>
  State.done_of_offers_nil (s := s.powerOn) rfl

/-- Settles O14: with a free port nothing is released or resumed, and the commit is abandoned or kept by its stage. -/
theorem cellResetUnmapsThePassage : Obligations.CellResetUnmapsThePassage := by
  intro s hfree
  obtain ⟨hport, hup, hoffers⟩ := s.portFree_iff.mp hfree
  have hunmapped : ∀ b : Fin 11, (Vector.replicate 11 (none : Option (List Word)))[b] = none := fun b => by simp
  by_cases hstage : s.maps.stage = .stamping
  · have hreset : s.cellReset = s.setPass { s.pass with mapped := false, latches := Vector.replicate 11 none } :=
      State.abandonCommit_resume_of_stamping hstage hport hup
    refine ⟨s.cellReset, State.done_of_offers_nil (by rw [hreset]; exact hoffers), ?_⟩
    rw [hreset]
    exact ⟨rfl, rfl, hunmapped, rfl, fun h => absurd hstage h, fun _ => ⟨rfl, rfl⟩⟩
  · have hreset : s.cellReset = (s.setMaps { s.maps with stage := .idle, copy := [] }).setPass
        { s.pass with mapped := false, latches := Vector.replicate 11 none, boundary := none } :=
      State.abandonCommit_resume_of_ne_stamping hstage hport hup
    refine ⟨s.cellReset, State.done_of_offers_nil (by rw [hreset]; exact hoffers), ?_⟩
    rw [hreset]
    exact ⟨rfl, rfl, hunmapped, rfl, fun _ => ⟨rfl, rfl, rfl⟩, fun h => absurd h hstage⟩

/-! ## The return frame (R4) -/

/-- Settles O15: by whether a sweep is in flight. -/
theorem returnFrameIsReceived : Obligations.ReturnFrameIsReceived := by
  intro s bytes hoffers
  refine ⟨fun w hw => ?_, fun hnone => ?_⟩
  · have hreceive : s.receive bytes = s.setLink { s.link with received := s.link.received ++ bytes } := by
      rw [State.receive, hw]
    exact (congrArg State.done hreceive).trans (State.done_of_offers_nil hoffers)
  · have hreceive : s.receive bytes = s := by rw [State.receive, hnone]
    exact (congrArg State.done hreceive).trans (State.done_of_offers_nil hoffers)

/-! ## Refusals (R177) -/

/-- A decision that either accepts or leaves the state as it was. -/
def Decides (s : State) (r : Byte × State) : Prop := r.1 ≠ 0x01 → r.1 ≠ 0x02 → r.2 = s

theorem Decides.refuses (s : State) (code : Byte) : Decides s (code, s) := fun _ _ => rfl

theorem Decides.done (s u : State) : Decides s (0x02, u) := fun _ h => absurd rfl h

theorem Decides.accepted (s u : State) : Decides s (0x01, u) := fun h => absurd rfl h

theorem State.loadDecision_decides (s : State) (d : Fin 4) (n : Nat) : Decides s (s.loadDecision d n) := by
  unfold State.loadDecision State.loadSlot
  split_ifs
  iterate 6 exact .refuses s _
  · exact .done s _
  · exact .refuses s _

theorem State.demouldDecision_decides (s : State) (d : Fin 4) (stamp : Stamp) :
    Decides s (s.demouldDecision d stamp) := by
  unfold State.demouldDecision
  split_ifs
  iterate 6 exact .refuses s _
  exact .accepted s _

theorem State.abortDecision_decides (s : State) (d : Fin 4) (stamp : Stamp) :
    Decides s (s.abortDecision d stamp) := by
  unfold State.abortDecision
  split_ifs
  iterate 2 exact .refuses s _
  exact .accepted s _

theorem State.scrapDecision_decides (s : State) (d : Fin 4) : Decides s (s.scrapDecision d) := by
  unfold State.scrapDecision
  split_ifs
  iterate 3 exact .refuses s _
  exact .done s _

theorem State.manualDecision_decides (s : State) (d : Fin 4) : Decides s (s.manualDecision d) := by
  unfold State.manualDecision
  split_ifs
  iterate 3 exact .refuses s _
  exact .done s _

theorem State.openCharge_decides (s : State) (h : Fin 4) (r : Nat) : Decides s (s.openCharge h r) := by
  unfold State.openCharge
  split
  · exact .refuses s _
  · split
    · exact .refuses s _
    · split
      · exact .refuses s _
      · split
        · exact .refuses s _
        · split
          · exact .refuses s _
          · split
            · exact .refuses s _
            · split
              · exact .refuses s _
              · exact .refuses s _
              · exact .done s _

theorem State.closeCharge_decides (s : State) (h : Fin 4) : Decides s (s.closeCharge h) := by
  unfold State.closeCharge
  split
  · exact .refuses s _
  · split
    · exact .refuses s _
    · exact .done s _

theorem State.discardCharge_decides (s : State) (n : Nat) : Decides s (s.discardCharge n) := by
  unfold State.discardCharge
  split_ifs
  · exact .refuses s _
  · exact .done s _
  · exact .refuses s _

theorem State.setLineDecision_decides (s : State) (argument : Byte) : Decides s (s.setLineDecision argument) := by
  unfold State.setLineDecision
  split_ifs
  · exact .refuses s _
  · exact .done s _
  · exact .refuses s _

theorem State.ownerDecision_decides (s : State) (c : Fin 10) (stamp : Stamp) :
    Decides s (s.ownerDecision c stamp) := by
  unfold State.ownerDecision
  split
  · unfold State.dayCommand
    split_ifs
    · exact s.loadDecision_decides _ _
    · exact s.demouldDecision_decides _ _
    · exact s.abortDecision_decides _ _
    · exact s.scrapDecision_decides _
    · exact s.manualDecision_decides _
    · exact .refuses s _
  · unfold State.headCommand
    split_ifs
    · exact s.openCharge_decides _ _
    · exact s.closeCharge_decides _
    · exact s.discardCharge_decides _
    · exact .refuses s _
  · unfold State.linkCommand
    split
    · exact .accepted s _
    · exact .refuses s _
  · unfold State.linesCommand
    split
    · exact s.setLineDecision_decides _
    · exact .refuses s _

/-- Settles O39: an owner's decision accepts, or leaves the state as it was. -/
theorem refusedCommandHasNoEffect : Obligations.RefusedCommandHasNoEffect := fun s c w =>
  s.ownerDecision_decides c w

end Sys2Proof.Machine
end

section
/-! What the delivery of a step's reports shows (R132 to R135): a cause offered with one detail stands in the pending
set with that detail, whatever the order of the reports, or a full set dropped it. -/

namespace Sys2Proof.Machine

/-- The report is of this kind and source; a resolution is of its module's MODULE ATTENTION (R134). -/
def Report.names : Report → CauseKind → Byte → Prop
  | .cause k x _, kind, source => k = kind ∧ x = source
  | .resolution p _, kind, source => kind = .moduleAttention ∧ byteOf p.val = source

/-- The detail a report carries. -/
def Report.detail : Report → Byte
  | .cause _ _ y => y
  | .resolution _ y => y

/-- `State.shows`, of the Attention Unit alone. -/
def Attention.Shows (a : Attention) (k : CauseKind) (source detail : Byte) : Prop :=
  (∃ e ∈ a.set, e.kind = k ∧ e.source = source ∧ e.detail = detail)
    ∨ (a.overflow = true ∧ Config.pendingCap ≤ a.set.length)

theorem Attention.offer_shows (a : Attention) (k : CauseKind) (source detail : Byte) :
    (a.offer k source detail).Shows k source detail := by
  unfold Attention.offer
  split
  · next hholds =>
    obtain ⟨e, he, hk, hs⟩ := (a.holds_iff k source).mp hholds
    exact .inl ⟨_, List.mem_map_of_mem he, by simp [hk, hs], by simp [hk, hs], by simp [hk, hs]⟩
  · split
    · exact .inl ⟨_, (mem_insertEntry _ _ a.set).mpr (.inl rfl), rfl, rfl, rfl⟩
    · next hfull => exact .inr ⟨rfl, Nat.le_of_not_lt hfull⟩

/-- A report shows its own detail. -/
theorem Attention.take_shows_of_names (a : Attention) {r : Report} {k : CauseKind} {source : Byte}
    (h : r.names k source) : (a.take r).Shows k source r.detail := by
  cases r with
  | cause k' x y =>
    obtain ⟨rfl, rfl⟩ := h
    exact a.offer_shows _ _ _
  | resolution p y =>
    obtain ⟨rfl, rfl⟩ := h
    simp only [Attention.take, Attention.resolve]
    split
    · next hholds =>
      obtain ⟨e, he, hk, hs⟩ := (a.holds_iff _ _).mp hholds
      exact .inl ⟨_, List.mem_map_of_mem he, by simp [hk, hs], by simp [hk, hs], by simp [hk, hs, Report.detail]⟩
    · exact a.offer_shows _ _ _

theorem Attention.offer_keeps_shows {a : Attention} {k k' : CauseKind} {source x detail : Byte}
    (h : a.Shows k source detail) (hne : ¬ (k' = k ∧ x = source)) (y : Byte) :
    (a.offer k' x y).Shows k source detail := by
  unfold Attention.offer
  rcases h with ⟨e, he, hk, hs, hd⟩ | ⟨hover, hfull⟩
  · split
    · refine .inl ⟨_, List.mem_map_of_mem he, ?_⟩
      have hother : ¬ (e.kind = k' ∧ e.source = x) := fun ⟨h1, h2⟩ => hne ⟨h1.symm.trans hk, h2.symm.trans hs⟩
      rw [if_neg hother]
      exact ⟨hk, hs, hd⟩
    · split
      · exact .inl ⟨e, (mem_insertEntry _ _ a.set).mpr (.inr he), hk, hs, hd⟩
      · exact .inl ⟨e, he, hk, hs, hd⟩
  · split
    · exact .inr ⟨hover, by simpa using hfull⟩
    · rw [if_neg (Nat.not_lt.mpr hfull)]
      exact .inr ⟨rfl, hfull⟩

/-- A report of another kind or source, or of the same detail, leaves what is shown. -/
theorem Attention.take_keeps_shows {a : Attention} {r : Report} {k : CauseKind} {source detail : Byte}
    (h : a.Shows k source detail) (hr : r.names k source → r.detail = detail) : (a.take r).Shows k source detail := by
  by_cases hnames : r.names k source
  · exact hr hnames ▸ a.take_shows_of_names hnames
  · cases r with
    | cause k' x y => exact offer_keeps_shows h hnames y
    | resolution p y =>
      have hne : ¬ (CauseKind.moduleAttention = k ∧ byteOf p.val = source) := fun ⟨h1, h2⟩ => hnames ⟨h1.symm, h2⟩
      simp only [Attention.take, Attention.resolve]
      split
      · rcases h with ⟨e, he, hk, hs, hd⟩ | ⟨hover, hfull⟩
        · refine .inl ⟨_, List.mem_map_of_mem he, ?_⟩
          rw [if_neg fun ⟨h1, h2⟩ => hne ⟨h1.symm.trans hk, h2.symm.trans hs⟩]
          exact ⟨hk, hs, hd⟩
        · exact .inr ⟨hover, by simpa using hfull⟩
      · exact offer_keeps_shows h hne y

theorem Attention.foldl_take_keeps_shows {k : CauseKind} {source detail : Byte} (rs : List Report) :
    ∀ {a : Attention}, a.Shows k source detail → (∀ r ∈ rs, r.names k source → r.detail = detail) →
      (rs.foldl Attention.take a).Shows k source detail := by
  induction rs with
  | nil => exact fun h _ => h
  | cons r rs ih =>
    exact fun h hrs => ih (take_keeps_shows h (hrs r List.mem_cons_self)) fun x hx => hrs x (List.mem_cons_of_mem r hx)

/-- Whatever the order in which reports are taken, one that is among them and agrees with the others is shown. -/
theorem Attention.foldl_take_shows {k : CauseKind} {source detail : Byte} (rs : List Report) :
    ∀ a : Attention, (∃ r ∈ rs, r.names k source) → (∀ r ∈ rs, r.names k source → r.detail = detail) →
      (rs.foldl Attention.take a).Shows k source detail := by
  induction rs with
  | nil => rintro a ⟨r, hr, -⟩; cases hr
  | cons x rs ih =>
    rintro a ⟨r, hr, hnames⟩ hall
    have hrest : ∀ r ∈ rs, r.names k source → r.detail = detail := fun y hy => hall y (List.mem_cons_of_mem x hy)
    rcases List.mem_cons.mp hr with rfl | hr
    · exact foldl_take_keeps_shows rs (hall r List.mem_cons_self hnames ▸ a.take_shows_of_names hnames) hrest
    · exact ih _ ⟨r, hr, hnames⟩ hrest

/-- A report of the step is shown after it, when the step's reports of its kind and source agree (R132, R135). -/
theorem State.deliver_shows {s : State} {k : CauseKind} {source detail : Byte} (h : ∃ r ∈ s.offers, r.names k source)
    (hall : ∀ r ∈ s.offers, r.names k source → r.detail = detail) : s.deliver.shows k source detail := by
  unfold State.deliver
  split
  · next hnil =>
    obtain ⟨r, hr, -⟩ := h
    rw [hnil] at hr
    cases hr
  · next x hone =>
    rw [hone] at h hall
    exact Attention.foldl_take_shows [x] s.att h hall
  · have hmem : ∀ r, r ∈ orderReports s.choice s.offers ↔ r ∈ s.offers := fun r =>
      (orderReports_perm s.choice s.offers).mem_iff
    exact Attention.foldl_take_shows (orderReports s.choice s.offers) s.att
      (by simpa only [hmem] using h) (by simpa only [hmem] using hall)

/-- A single report of the step is taken. -/
theorem State.deliver_single {s : State} {r : Report} (h : s.offers = [r]) :
    s.deliver = (s.setAtt (s.att.take r)).setOffers [] := by
  rw [State.deliver, h]

theorem byteOf_injective {m n : Nat} (hm : m < 256) (hn : n < 256) (h : byteOf m = byteOf n) : m = n := by
  rw [← byteOf_toNat hm, ← byteOf_toNat hn, h]

end Sys2Proof.Machine
end

section
/-! The sweep end (R10): what each of its units leaves alone, and the reports of the step. -/

namespace Sys2Proof.Machine

/-! ## The units of a sweep end -/

@[simp] theorem State.zoneUnit_time (s : State) (rs : Vector ModuleReport 10) : (s.zoneUnit rs).time = s.time := by
  simp [State.zoneUnit]
@[simp] theorem State.zoneUnit_link (s : State) (rs : Vector ModuleReport 10) : (s.zoneUnit rs).link = s.link := by
  simp [State.zoneUnit]
@[simp] theorem State.zoneUnit_seqs (s : State) (rs : Vector ModuleReport 10) : (s.zoneUnit rs).seqs = s.seqs := by
  simp [State.zoneUnit]
@[simp] theorem State.zoneUnit_weigh (s : State) (rs : Vector ModuleReport 10) : (s.zoneUnit rs).weigh = s.weigh := by
  simp [State.zoneUnit]
@[simp] theorem State.zoneUnit_lines (s : State) (rs : Vector ModuleReport 10) : (s.zoneUnit rs).lines = s.lines := by
  simp [State.zoneUnit]
@[simp] theorem State.zoneUnit_hist (s : State) (rs : Vector ModuleReport 10) : (s.zoneUnit rs).hist = s.hist := by
  simp [State.zoneUnit]
@[simp] theorem State.zoneUnit_att (s : State) (rs : Vector ModuleReport 10) : (s.zoneUnit rs).att = s.att := by
  simp [State.zoneUnit]
@[simp] theorem State.zoneUnit_pass (s : State) (rs : Vector ModuleReport 10) : (s.zoneUnit rs).pass = s.pass := by
  simp [State.zoneUnit]
@[simp] theorem State.zoneUnit_maps (s : State) (rs : Vector ModuleReport 10) : (s.zoneUnit rs).maps = s.maps := by
  simp [State.zoneUnit]
@[simp] theorem State.zoneUnit_chans (s : State) (rs : Vector ModuleReport 10) : (s.zoneUnit rs).chans = s.chans := by
  simp [State.zoneUnit]
@[simp] theorem State.zoneUnit_mem (s : State) (rs : Vector ModuleReport 10) : (s.zoneUnit rs).mem = s.mem := by
  simp [State.zoneUnit]
@[simp] theorem State.zoneUnit_choice (s : State) (rs : Vector ModuleReport 10) :
    (s.zoneUnit rs).choice = s.choice := by
  simp [State.zoneUnit]
@[simp] theorem State.zoneUnit_pending (s : State) (rs : Vector ModuleReport 10) :
    (s.zoneUnit rs).pending = s.pending := by
  simp [State.zoneUnit]
theorem State.zoneUnit_zones (s : State) (rs : Vector ModuleReport 10) :
    (s.zoneUnit rs).zones = Vector.ofFn fun z => ((deriveZones s.cell s.zones rs)[z]).zone := by
  simp only [State.zoneUnit, State.setDays_zones, State.report_zones, State.setZones_zones]
theorem State.zoneUnit_days (s : State) (rs : Vector ModuleReport 10) : (s.zoneUnit rs).days
    = Vector.ofFn fun d => { s.days[d] with
        record := s.days[d].record.map fun r => r.warn s.cell (deriveZones s.cell s.zones rs) d } := by
  simp only [State.zoneUnit, State.setDays_days]
theorem State.zoneUnit_offers (s : State) (rs : Vector ModuleReport 10) : (s.zoneUnit rs).offers
    = s.offers ++ (List.finRange 40).flatMap fun z => ((deriveZones s.cell s.zones rs)[z]).causes z := by
  simp only [State.zoneUnit, State.setDays_offers, State.report_offers, State.setZones_offers]

@[simp] theorem State.daylightUnit_time (s : State) : (s.daylightUnit).time = s.time := by
  simp [State.daylightUnit]
@[simp] theorem State.daylightUnit_link (s : State) : (s.daylightUnit).link = s.link := by
  simp [State.daylightUnit]
@[simp] theorem State.daylightUnit_zones (s : State) : (s.daylightUnit).zones = s.zones := by
  simp [State.daylightUnit]
@[simp] theorem State.daylightUnit_seqs (s : State) : (s.daylightUnit).seqs = s.seqs := by
  simp [State.daylightUnit]
@[simp] theorem State.daylightUnit_weigh (s : State) : (s.daylightUnit).weigh = s.weigh := by
  simp [State.daylightUnit]
@[simp] theorem State.daylightUnit_lines (s : State) : (s.daylightUnit).lines = s.lines := by
  simp [State.daylightUnit]
@[simp] theorem State.daylightUnit_hist (s : State) : (s.daylightUnit).hist = s.hist := by
  simp [State.daylightUnit]
@[simp] theorem State.daylightUnit_att (s : State) : (s.daylightUnit).att = s.att := by
  simp [State.daylightUnit]
@[simp] theorem State.daylightUnit_pass (s : State) : (s.daylightUnit).pass = s.pass := by
  simp [State.daylightUnit]
@[simp] theorem State.daylightUnit_maps (s : State) : (s.daylightUnit).maps = s.maps := by
  simp [State.daylightUnit]
@[simp] theorem State.daylightUnit_chans (s : State) : (s.daylightUnit).chans = s.chans := by
  simp [State.daylightUnit]
@[simp] theorem State.daylightUnit_mem (s : State) : (s.daylightUnit).mem = s.mem := by
  simp [State.daylightUnit]
@[simp] theorem State.daylightUnit_choice (s : State) : (s.daylightUnit).choice = s.choice := by
  simp [State.daylightUnit]
@[simp] theorem State.daylightUnit_pending (s : State) : (s.daylightUnit).pending = s.pending := by
  simp [State.daylightUnit]
theorem State.daylightUnit_days (s : State) : s.daylightUnit.days = Vector.ofFn fun d => s.dayAfterSweep d := by
  simp [State.daylightUnit]
theorem State.daylightUnit_offers (s : State) : s.daylightUnit.offers
    = s.offers ++ (List.finRange 4).flatMap fun d => doseCauses d s.days[d] (s.dayAfterSweep d) := by
  simp [State.daylightUnit]

@[simp] theorem State.nextPeriod_eq (s : State) : s.nextPeriod = s.setLink (s.link.startPeriod s.cell s.zones) := rfl

theorem State.cell_of_maps {s t : State} (h : t.maps = s.maps) : t.cell = s.cell := congrArg MapUnit.effective h

/-- The controller's state after a sweep end is that of its own step, with the next period begun (R2, R10). -/
theorem State.sweepEnd_link (s : State) :
    s.sweepEnd.link = s.sweepStep.link.startPeriod s.cell s.sweepEnd.zones := by
  have hcell : (((s.takeLink s.sweepStep).zoneUnit s.sweepReports).daylightUnit).cell = s.cell :=
    State.cell_of_maps (by simp)
  rw [State.sweepEnd, State.nextPeriod_eq, State.setLink_link, hcell]
  simp

theorem State.sweepEnd_zones (s : State) : s.sweepEnd.zones
    = Vector.ofFn fun z => ((deriveZones s.cell s.zones s.sweepReports)[z]).zone := by
  have hcell : (s.takeLink s.sweepStep).cell = s.cell := State.cell_of_maps (by simp)
  rw [State.sweepEnd, State.nextPeriod_eq, State.setLink_zones, State.daylightUnit_zones, State.zoneUnit_zones, hcell,
    State.takeLink_zones]

theorem State.sweepEnd_chans (s : State) : s.sweepEnd.chans = (s.takeLink s.sweepStep).chans := by
  simp [State.sweepEnd]

theorem deriveZones_get (m : CellMap) (zones : Vector Zone 40) (rs : Vector ModuleReport 10) (z : Fin 40) :
    (deriveZones m zones rs)[z] = zones[z].derive m.zones[z] (zoneReport m.zones[z] rs) :=
  getElem_ofFn_fin _ z

theorem State.sweepEnd_zone (s : State) (z : Fin 40) : s.sweepEnd.zones[z]
    = (s.zones[z].derive s.cell.zones[z] (zoneReport s.cell.zones[z] s.sweepReports)).zone := by
  rw [State.sweepEnd_zones, getElem_ofFn_fin, deriveZones_get]

/-- The period that begins keeps what the sweep left of the controller (R2). -/
theorem Link.startPeriod_frame (l : Link) (m : CellMap) (zones : Vector Zone 40) : l.startPeriod m zones
    = { l with
        restarted := false, received := [], sweepCount := (l.startPeriod m zones).sweepCount
        inFlight := (l.startPeriod m zones).inFlight } := by
  unfold Link.startPeriod
  split <;> rfl

@[simp] theorem Link.startPeriod_state (l : Link) (m : CellMap) (z : Vector Zone 40) :
    (l.startPeriod m z).state = l.state := by rw [l.startPeriod_frame]
@[simp] theorem Link.startPeriod_health (l : Link) (m : CellMap) (z : Vector Zone 40) :
    (l.startPeriod m z).health = l.health := by rw [l.startPeriod_frame]
@[simp] theorem Link.startPeriod_found (l : Link) (m : CellMap) (z : Vector Zone 40) :
    (l.startPeriod m z).found = l.found := by rw [l.startPeriod_frame]
@[simp] theorem Link.startPeriod_probes (l : Link) (m : CellMap) (z : Vector Zone 40) :
    (l.startPeriod m z).probes = l.probes := by rw [l.startPeriod_frame]
@[simp] theorem Link.startPeriod_modules (l : Link) (m : CellMap) (z : Vector Zone 40) :
    (l.startPeriod m z).modules = l.modules := by rw [l.startPeriod_frame]
@[simp] theorem Link.startPeriod_queue (l : Link) (m : CellMap) (z : Vector Zone 40) :
    (l.startPeriod m z).queue = l.queue := by rw [l.startPeriod_frame]
@[simp] theorem Link.startPeriod_ride (l : Link) (m : CellMap) (z : Vector Zone 40) :
    (l.startPeriod m z).ride = l.ride := by rw [l.startPeriod_frame]
@[simp] theorem Link.startPeriod_restart (l : Link) (m : CellMap) (z : Vector Zone 40) :
    (l.startPeriod m z).restart = l.restart := by rw [l.startPeriod_frame]

theorem Link.startPeriod_of_frames {l : Link} {m : CellMap} (h : l.state.frames = true ∧ 1 ≤ m.modules)
    (zones : Vector Zone 40) : (l.startPeriod m zones).sweepCount = (l.sweepCount + 1) % 4
      ∧ (l.startPeriod m zones).inFlight = some ⟨l.sweepCount, l.nextSlot, l.found,
          outboundFrame l.sweepCount l.nextSlot (setpointSections m zones l)⟩ := by
  rw [Link.startPeriod, if_pos h]
  exact ⟨rfl, rfl⟩

theorem Link.startPeriod_of_not_frames {l : Link} {m : CellMap} (h : ¬ (l.state.frames = true ∧ 1 ≤ m.modules))
    (zones : Vector Zone 40) : (l.startPeriod m zones).sweepCount = l.sweepCount
      ∧ (l.startPeriod m zones).inFlight = none := by
  rw [Link.startPeriod, if_neg h]
  exact ⟨rfl, rfl⟩

theorem Link.sweepStep_of_inFlight {l : Link} {w : Sweep} (hw : l.inFlight = some w) (hr : l.restarted = false)
    (m : CellMap) : l.sweepStep m = l.evaluate m w := by
  rw [Link.sweepStep, hr, hw]
  rfl

theorem Link.sweepStep_of_none {l : Link} (h : l.inFlight = none) (m : CellMap) : l.sweepStep m = LinkStep.of l := by
  rw [Link.sweepStep, h]
  split <;> rfl

/-- Settles O16: the controller's step leaves the link as it is, and the next period begins on it. -/
theorem sweepEndWithoutSweepKeepsTheLink : Obligations.SweepEndWithoutSweepKeepsTheLink := by
  intro s hnone
  have hstep : s.sweepStep.link = s.link := by
    rw [State.sweepStep, Link.sweepStep_of_none hnone]
    rfl
  have hlink : s.sweepEnd.deliver.link = s.link.startPeriod s.cell s.sweepEnd.zones := by
    rw [State.deliver_link, State.sweepEnd_link, hstep]
  refine ⟨s.sweepEnd.deliver, rfl, ?_, fun hframes hmodules => ?_, fun hno => ?_⟩
  · rw [hlink]
    exact Link.startPeriod_frame _ _ _
  · obtain ⟨hcount, hflight⟩ := Link.startPeriod_of_frames ⟨hframes, hmodules⟩ s.sweepEnd.zones
    rw [hlink]
    exact ⟨hcount, _, hflight, rfl, rfl, rfl⟩
  · rw [hlink]
    exact Link.startPeriod_of_not_frames hno _

/-! ## Zones and daylights of a sweep end (R25, R51, R113) -/

theorem State.sweepEnd_days (s : State) : s.sweepEnd.days
    = Vector.ofFn fun d => ((s.takeLink s.sweepStep).zoneUnit s.sweepReports).dayAfterSweep d := by
  simp only [State.sweepEnd, State.nextPeriod_eq, State.setLink_days, State.daylightUnit_days]

theorem Daylight.doseStep_of_curing {c : Daylight} (h : c.state = .curing) (closed : Bool)
    (readings : Option (List Nat)) (now : Time) :
    c.doseStep closed readings now = (c.sweep readings).judge readings.isNone now := by
  rw [Daylight.doseStep, h]

theorem Daylight.doseStep_of_cured {c : Daylight} (h : c.state = .cured) (readings : Option (List Nat)) (now : Time) :
    c.doseStep true readings now = c.sweep readings := by
  rw [Daylight.doseStep, h]
  rfl

theorem Daylight.doseStep_of_other {c : Daylight} {closed : Bool}
    (h : ¬ (c.state = .curing ∨ (c.state = .cured ∧ closed = true)))
    (readings : Option (List Nat)) (now : Time) : c.doseStep closed readings now = c := by
  unfold Daylight.doseStep
  split
  · next hs => exact absurd (.inl hs) h
  · next hs =>
    split
    · next hc => exact absurd (.inr ⟨hs, hc⟩) h
    · rfl
  all_goals rfl

/-- The dose step reads nothing of the record, and what it does beside it does not depend on it. -/
theorem Daylight.doseStep_eraseRecord (c : Daylight) (r : Option OpenRecord) (closed : Bool)
    (readings : Option (List Nat)) (now : Time) :
    { ({ c with record := r } : Daylight).doseStep closed readings now with record := none }
      = { c.doseStep closed readings now with record := none } := by
  have hsweep : ∀ x, ({ c with record := r } : Daylight).sweep x = { c.sweep x with record := r } := fun x => by
    cases x <;> rfl
  have hjudge : ∀ (y : Daylight) (b : Bool), { ({ y with record := r } : Daylight).judge b now with record := none }
      = { y.judge b now with record := none } := fun y b => by
    simp only [Daylight.judge]
    split_ifs <;> rfl
  by_cases hcuring : c.state = .curing
  · rw [doseStep_of_curing hcuring, doseStep_of_curing (c := { c with record := r }) hcuring, hsweep, hjudge]
  · by_cases hcured : c.state = .cured ∧ closed = true
    · obtain ⟨hstate, rfl⟩ := hcured
      rw [doseStep_of_cured hstate, doseStep_of_cured (c := { c with record := r }) hstate, hsweep]
    · have hother : ¬ (c.state = .curing ∨ (c.state = .cured ∧ closed = true)) := not_or.mpr ⟨hcuring, hcured⟩
      rw [doseStep_of_other hother, doseStep_of_other (c := { c with record := r }) hother]

theorem Daylight.doseStep_isSome (c : Daylight) (closed : Bool) (readings : Option (List Nat)) (now : Time) :
    (c.doseStep closed readings now).record.isSome = c.record.isSome := by
  have hsweep : (c.sweep readings).record = c.record := by cases readings <;> rfl
  unfold Daylight.doseStep
  split
  · simp only [Daylight.judge]
    split_ifs <;> simp [Daylight.toCured, Daylight.toFaulted, hsweep]
  · split
    · rw [hsweep]
    · rfl
  all_goals rfl

/-- A daylight after a sweep end: its context before the zones' reports, through the dose step, its record marked. -/
theorem State.sweepEnd_day (s : State) (d : Fin 4) : ∃ r : Option OpenRecord, r.isSome = s.days[d].record.isSome
    ∧ s.sweepEnd.days[d] = (({ s.days[d] with record := r } : Daylight).doseStep (s.level (.closed d))
        (trustedReadings ((s.cell.doseZones d).map fun z => s.sweepEnd.zones[z])) s.time).markDegraded
          s.sweepStep.link.state := by
  have hzones : ((s.takeLink s.sweepStep).zoneUnit s.sweepReports).zones = s.sweepEnd.zones := by
    rw [State.sweepEnd, State.nextPeriod_eq, State.setLink_zones, State.daylightUnit_zones]
  have hcell : ((s.takeLink s.sweepStep).zoneUnit s.sweepReports).cell = s.cell := State.cell_of_maps (by simp)
  have hcell' : (s.takeLink s.sweepStep).cell = s.cell := State.cell_of_maps (by simp)
  have hlevel : ((s.takeLink s.sweepStep).zoneUnit s.sweepReports).level (.closed d) = s.level (.closed d) :=
    State.level_congr (by simp) (by simp) _
  refine ⟨s.days[d].record.map fun r => r.warn s.cell (deriveZones s.cell s.zones s.sweepReports) d, ?_, ?_⟩
  rotate_left
  · rw [State.sweepEnd_days, getElem_ofFn_fin, State.dayAfterSweep, State.doseReadings, hzones, hcell, hlevel,
      State.zoneUnit_days, getElem_ofFn_fin]
    simp only [State.zoneUnit_time, State.zoneUnit_link, State.takeLink_time, State.takeLink_link, State.takeLink_days,
      State.takeLink_zones, hcell']
  · simp

theorem Daylight.markDegraded_isSome (c : Daylight) (l : LinkState) :
    (c.markDegraded l).record.isSome = c.record.isSome := by
  unfold Daylight.markDegraded
  split <;> simp

theorem Daylight.markDegraded_eraseRecord (c : Daylight) (l : LinkState) :
    ({ c.markDegraded l with record := none } : Daylight) = { c with record := none } := by
  unfold Daylight.markDegraded
  split <;> rfl

/-- Settles O18: each unit's result in the order of R10; the delivery touches no unit of the sweep. -/
theorem sweepEndDerivesZonesThenDose : Obligations.SweepEndDerivesZonesThenDose := by
  intro s
  refine ⟨s.sweepEnd.deliver, rfl, ?_, fun z => ?_, fun d => ?_, fun d => ?_, fun d r hr hlink => ?_⟩
  · apply State.ext_fields <;> simp [State.sweepEnd]
  · rw [State.deliver_zones]
    exact s.sweepEnd_zone z
  · obtain ⟨r, -, hday⟩ := s.sweepEnd_day d
    rw [State.deliver_days, State.deliver_zones, hday, Daylight.markDegraded_eraseRecord,
      Daylight.doseStep_eraseRecord]
  · obtain ⟨r, hsome, hday⟩ := s.sweepEnd_day d
    rw [State.deliver_days, hday, Daylight.markDegraded_isSome, Daylight.doseStep_isSome]
    exact hsome
  · obtain ⟨r', -, hday⟩ := s.sweepEnd_day d
    rw [State.deliver_link, State.sweepEnd_link, Link.startPeriod_state] at hlink
    rw [State.deliver_days, hday, Daylight.markDegraded, if_pos hlink, Option.map_eq_some_iff] at hr
    obtain ⟨-, -, rfl⟩ := hr
    rfl

/-! ## The reports of a sweep end -/

/-- The kind of cause a report is of; a resolution is of MODULE ATTENTION (R134). -/
def Report.kind : Report → CauseKind
  | .cause k _ _ => k
  | .resolution _ _ => .moduleAttention

theorem Report.kind_of_names {r : Report} {k : CauseKind} {source : Byte} (h : r.names k source) : r.kind = k := by
  cases r with
  | cause k' x y => exact h.1
  | resolution p y => exact h.1.symm

/-- The kinds of cause that zones and daylights raise at a sweep end (Table 2-6, R55, R56). -/
def zoneAndDoseKinds : List CauseKind :=
  [.zoneTripped, .zoneSensorFailed, .zoneOvertemp, .setpointNotApplied, .cured, .cureFault]

theorem ZoneStep.causes_kind {x : ZoneStep} {z : Fin 40} {r : Report} (h : r ∈ x.causes z) :
    r.kind ∈ zoneAndDoseKinds := by
  simp only [ZoneStep.causes, List.mem_append] at h
  rcases h with ((h | h) | h) | h <;> split at h <;> simp at h <;> subst h <;> simp [Report.kind, zoneAndDoseKinds]

theorem doseCauses_kind {d : Fin 4} {a b : Daylight} {r : Report} (h : r ∈ doseCauses d a b) :
    r.kind ∈ zoneAndDoseKinds := by
  unfold doseCauses at h
  split at h <;> simp at h <;> subst h <;> simp [Report.kind, zoneAndDoseKinds]

theorem State.mem_sweepEnd_offers {s : State} {r : Report} (h : r ∈ s.sweepEnd.offers) :
    r ∈ s.offers ∨ r ∈ s.sweepStep.reports ∨ r.kind ∈ zoneAndDoseKinds := by
  rw [State.sweepEnd, State.nextPeriod_eq, State.setLink_offers, State.daylightUnit_offers, State.zoneUnit_offers,
    State.takeLink_offers, List.mem_append, List.mem_append, List.mem_append] at h
  rcases h with ((h | h) | h) | h
  · exact .inl h
  · exact .inr (.inl h)
  · obtain ⟨z, -, hz⟩ := List.mem_flatMap.mp h
    exact .inr (.inr (ZoneStep.causes_kind hz))
  · obtain ⟨d, -, hd⟩ := List.mem_flatMap.mp h
    exact .inr (.inr (doseCauses_kind hd))

theorem State.sweepStep_reports_subset {s : State} {r : Report} (h : r ∈ s.sweepStep.reports) :
    r ∈ s.sweepEnd.offers := by
  rw [State.sweepEnd, State.nextPeriod_eq, State.setLink_offers, State.daylightUnit_offers, State.zoneUnit_offers,
    State.takeLink_offers]
  simp [h]

/-- A report of the link is shown after the sweep end, when the link's reports of its kind and source agree. -/
theorem State.sweepEnd_shows {s : State} (hoffers : s.offers = []) {k : CauseKind} {source detail : Byte}
    (hk : k ∉ zoneAndDoseKinds) (h : ∃ r ∈ s.sweepStep.reports, r.names k source)
    (hall : ∀ r ∈ s.sweepStep.reports, r.names k source → r.detail = detail) :
    s.sweepEnd.deliver.shows k source detail := by
  obtain ⟨r, hr, hnames⟩ := h
  refine State.deliver_shows ⟨r, State.sweepStep_reports_subset hr, hnames⟩ fun x hx hxnames => ?_
  rcases State.mem_sweepEnd_offers hx with hx | hx | hx
  · rw [hoffers] at hx
    cases hx
  · exact hall x hx hxnames
  · rw [Report.kind_of_names hxnames] at hx
    exact absurd hx hk

end Sys2Proof.Machine
end

section
/-! Zones and daylights at a sweep end: what the derivation of one zone gives (R25 to R29, R38, R39) and what a dose
step does (R51 to R56), and the rows that name what comes about inside a sweep end (R27, R39, R54). -/

namespace Sys2Proof.Machine

/-- A row that names what comes about inside a sweep end is the sweep end, when that comes about (log 5). -/
theorem State.sweepWhen_done {s : State} {due : Bool} (h : due = true) :
    (s.sweepWhen due).done = .next s.sweepEnd.deliver := by
  rw [State.sweepWhen, if_pos h]
  rfl

/-! ## The derivation of one zone -/

/-- The delivery of a setpoint touches the applied setpoint, the delivery, its counter and its mark, and no more. -/
theorem Zone.deliver_frame (z : Zone) (echo : Option Nat) : (z.deliver echo).1 = { z with
    applied := (z.deliver echo).1.applied, delivery := (z.deliver echo).1.delivery
    counter := (z.deliver echo).1.counter, notApplied := (z.deliver echo).1.notApplied } := by
  simp only [Zone.deliver]
  split_ifs <;> rfl

@[simp] theorem Zone.deliver_rstate (z : Zone) (echo : Option Nat) : (z.deliver echo).1.rstate = z.rstate := by
  rw [z.deliver_frame]
@[simp] theorem Zone.deliver_reading (z : Zone) (echo : Option Nat) : (z.deliver echo).1.reading = z.reading := by
  rw [z.deliver_frame]
@[simp] theorem Zone.deliver_heldCount (z : Zone) (echo : Option Nat) :
    (z.deliver echo).1.heldCount = z.heldCount := by rw [z.deliver_frame]
@[simp] theorem Zone.deliver_status (z : Zone) (echo : Option Nat) : (z.deliver echo).1.status = z.status := by
  rw [z.deliver_frame]

/-- R39: the thirtieth sweep without an equal echo marks a PENDING request. -/
theorem Zone.deliver_of_limit {z : Zone} {echo : Option Nat} (hpending : z.delivery = .pending)
    (hcounter : z.counter = 29) (hmark : z.notApplied = false) (hecho : ¬ (echo.isSome = true ∧ echo = z.request)) :
    (z.deliver echo).1 = { z with counter := 30, notApplied := true } := by
  have hlate : ¬ (z.delivery = .pending ∧ echo.isSome = true ∧ echo = z.request) := fun h => hecho h.2
  simp only [Zone.deliver, if_neg hlate, if_pos hpending, hcounter, hmark]
  rfl

theorem Zone.derive_notPresent (z : Zone) (e : ZoneEntry) : (z.derive e .notPresent).zone = z.toAbsent := rfl

theorem Zone.derive_held (z : Zone) (e : ZoneEntry) : (z.derive e .held).zone = (z.toHeld.deliver none).1 := rfl

theorem Zone.derive_fresh (z : Zone) {e : ZoneEntry} (rd : Reading) (h : e.channel < 4) : z.derive e (.fresh rd)
    = z.toSection e.alarm rd.status[e.channel] rd.temps[e.channel] rd.held[e.channel] := by
  rw [Zone.derive, dif_pos h]

/-- An ABSENT zone keeps its request and has no reading and no applied setpoint (R25, R40). -/
theorem Zone.toAbsent_spec (z : Zone) : z.toAbsent.rstate = .absent ∧ z.toAbsent.reading = none
    ∧ z.toAbsent.applied = none ∧ z.toAbsent.request = z.request ∧ z.toAbsent.heldCount = 0
    ∧ z.toAbsent.status = z.status := by
  unfold Zone.toAbsent
  split_ifs <;> exact ⟨rfl, rfl, rfl, rfl, rfl, rfl⟩

/-- A held sweep touches the reading, its state and the held count, and no more (R27). -/
theorem Zone.toHeld_frame (z : Zone) : z.toHeld = { z with
    reading := z.toHeld.reading, rstate := z.toHeld.rstate, heldCount := z.toHeld.heldCount } := by
  unfold Zone.toHeld
  split <;> rfl

/-- R27: a held sweep of a FRESH or HELD zone. -/
theorem Zone.toHeld_of_live {z : Zone} (h : z.rstate = .fresh ∨ z.rstate = .held) : z.toHeld = { z with
    heldCount := min Config.staleAt (z.heldCount + 1)
    rstate := if min Config.staleAt (z.heldCount + 1) < Config.staleAt then .held else .stale } := by
  unfold Zone.toHeld
  rcases h with h | h <;> rw [h]

/-- The overtemperature test touches the latch alone (R30). -/
theorem Zone.overtempTest_frame (z : Zone) (alarm reading : Nat) :
    (z.overtempTest alarm reading).1 = { z with latched := (z.overtempTest alarm reading).1.latched } := by
  unfold Zone.overtempTest
  split_ifs <;> rfl

theorem Zone.toFresh_frame (z : Zone) (alarm temp : Nat) : (z.toFresh alarm temp).1 = { z with
    rstate := .fresh, reading := some (min Config.tempMax temp), latched := (z.toFresh alarm temp).1.latched } := by
  rw [Zone.toFresh, Zone.overtempTest_frame]

/-- R26, R28: what a fresh section with an enabled channel makes of a zone before the delivery of its setpoint. -/
def Zone.beforeDelivery (z : Zone) (alarm : Nat) (status : ChannelStatus) (temp : Nat) : Zone :=
  match status with
  | .sensorBreak => { z with status := status, heldCount := 0, rstate := .failed, reading := none, tripMemory := false }
  | .ok => (({ z with status := status, heldCount := 0, tripMemory := false } : Zone).toFresh alarm temp).1
  | .tripped => (({ z with status := status, heldCount := 0, tripMemory := true } : Zone).toFresh alarm temp).1
  | .disabled => z

theorem Zone.toSection_of_enabled (z : Zone) (alarm : Nat) {status : ChannelStatus} (h : status ≠ .disabled)
    (temp echo : Nat) : (z.toSection alarm status temp echo).zone
      = ((z.beforeDelivery alarm status temp).deliver (some echo)).1 := by
  cases status with
  | disabled => exact absurd rfl h
  | ok => rfl
  | sensorBreak => rfl
  | tripped => rfl

theorem Zone.toSection_of_disabled (z : Zone) (alarm temp echo : Nat) :
    (z.toSection alarm .disabled temp echo).zone = ({ z with status := .disabled, heldCount := 0 } : Zone).toAbsent :=
  rfl

/-- What a section makes of a zone leaves its request and the delivery of it alone. -/
theorem Zone.beforeDelivery_delivery (z : Zone) (alarm : Nat) (status : ChannelStatus) (temp : Nat) :
    (z.beforeDelivery alarm status temp).request = z.request
      ∧ (z.beforeDelivery alarm status temp).delivery = z.delivery
      ∧ (z.beforeDelivery alarm status temp).counter = z.counter
      ∧ (z.beforeDelivery alarm status temp).notApplied = z.notApplied := by
  cases status with
  | disabled => exact ⟨rfl, rfl, rfl, rfl⟩
  | sensorBreak => exact ⟨rfl, rfl, rfl, rfl⟩
  | ok =>
    rw [Zone.beforeDelivery, Zone.toFresh_frame]
    exact ⟨rfl, rfl, rfl, rfl⟩
  | tripped =>
    rw [Zone.beforeDelivery, Zone.toFresh_frame]
    exact ⟨rfl, rfl, rfl, rfl⟩

/-- R26: a section of an enabled channel without a sensor break makes the zone FRESH with its reading. -/
theorem Zone.beforeDelivery_of_fresh (z : Zone) (alarm : Nat) {status : ChannelStatus}
    (h : status = .ok ∨ status = .tripped) (temp : Nat) :
    (z.beforeDelivery alarm status temp).status = status ∧ (z.beforeDelivery alarm status temp).rstate = .fresh
      ∧ (z.beforeDelivery alarm status temp).reading = some (min Config.tempMax temp)
      ∧ (z.beforeDelivery alarm status temp).heldCount = 0 := by
  rcases h with rfl | rfl <;> rw [Zone.beforeDelivery, Zone.toFresh_frame] <;> exact ⟨rfl, rfl, rfl, rfl⟩

/-- R26: what stands of the reading after a fresh section of such a channel. -/
theorem Zone.toSection_of_fresh (z : Zone) (alarm : Nat) {status : ChannelStatus}
    (h : status = .ok ∨ status = .tripped) (temp echo : Nat) :
    (z.toSection alarm status temp echo).zone.status = status
      ∧ (z.toSection alarm status temp echo).zone.rstate = .fresh
      ∧ (z.toSection alarm status temp echo).zone.reading = some (min Config.tempMax temp)
      ∧ (z.toSection alarm status temp echo).zone.heldCount = 0 := by
  have henabled : status ≠ .disabled := by rcases h with rfl | rfl <;> simp
  rw [Zone.toSection_of_enabled z alarm henabled, Zone.deliver_status, Zone.deliver_rstate, Zone.deliver_reading,
    Zone.deliver_heldCount]
  exact z.beforeDelivery_of_fresh alarm h temp

/-- Settles O19, by the report of the module and, for a fresh one, the status of the channel. -/
theorem zoneReadingStates : Obligations.ZoneReadingStates := by
  intro z e
  refine ⟨?_, fun hlive hcount => ?_, fun hlive hcount => ?_, fun hs => ?_, fun hs => ?_, fun hs => ?_, fun rd h => ?_⟩
  · obtain ⟨hrstate, hreading, happlied, hrequest, hheld, -⟩ := z.toAbsent_spec
    exact ⟨hrstate, hreading, happlied, hrequest, hheld⟩
  · have hn : min Config.staleAt (z.heldCount + 1) = z.heldCount + 1 := by simp only [Config.staleAt]; omega
    have hlt : z.heldCount + 1 < Config.staleAt := by simp only [Config.staleAt]; omega
    simp [Zone.derive_held, Zone.toHeld_of_live hlive, hn, hlt]
  · have hn : ¬ min Config.staleAt (z.heldCount + 1) < Config.staleAt := by simp only [Config.staleAt]; omega
    simp only [Zone.derive_held, Zone.deliver_rstate, Zone.toHeld_of_live hlive, if_neg hn]
  · simp [Zone.derive_held, Zone.toHeld, hs]
  · simp [Zone.derive_held, Zone.toHeld, hs]
  · simp [Zone.derive_held, Zone.toHeld, hs]
  · rw [Zone.derive_fresh z rd h]
    generalize rd.status[e.channel] = status
    cases status with
    | disabled =>
      obtain ⟨hrstate, hreading, -, -, -, hstatus⟩ :=
        ({ z with status := .disabled, heldCount := 0 } : Zone).toAbsent_spec
      rw [Zone.toSection_of_disabled]
      exact ⟨hstatus, by simp, by simp, fun _ => ⟨hrstate, hreading⟩⟩
    | sensorBreak => simp [Zone.toSection_of_enabled, Zone.beforeDelivery]
    | ok =>
      obtain ⟨hstatus, hfresh⟩ := z.toSection_of_fresh e.alarm (.inl rfl) rd.temps[e.channel] rd.held[e.channel]
      exact ⟨hstatus, fun _ => hfresh, by simp, by simp⟩
    | tripped =>
      obtain ⟨hstatus, hfresh⟩ := z.toSection_of_fresh e.alarm (.inr rfl) rd.temps[e.channel] rd.held[e.channel]
      exact ⟨hstatus, fun _ => hfresh, by simp, by simp⟩

/-- R38, R39: what stands of the delivery of a zone whose counter reaches 30 at a sweep without an equal echo. -/
theorem Zone.derive_of_limit {z : Zone} {e : ZoneEntry} {r : ModuleReport} (hpending : z.delivery = .pending)
    (hcounter : z.counter = 29) (hmark : z.notApplied = false)
    (hr : r = .held ∨ ∃ (rd : Reading) (h : e.channel < 4), r = .fresh rd ∧ rd.status[e.channel] ≠ .disabled
      ∧ z.request ≠ some rd.held[e.channel]) :
    (z.derive e r).zone.notApplied = true ∧ (z.derive e r).zone.counter = 30
      ∧ (z.derive e r).zone.delivery = .pending := by
  rcases hr with rfl | ⟨rd, h, rfl, henabled, hecho⟩
  · rw [Zone.derive_held, Zone.deliver_of_limit (by rw [z.toHeld_frame, hpending]) (by rw [z.toHeld_frame, hcounter])
      (by rw [z.toHeld_frame, hmark]) (by simp)]
    exact ⟨rfl, rfl, by rw [z.toHeld_frame]; exact hpending⟩
  · obtain ⟨hrequest, hdelivery, hcount, hnot⟩ :=
      z.beforeDelivery_delivery e.alarm rd.status[e.channel] rd.temps[e.channel]
    rw [Zone.derive_fresh z rd h, Zone.toSection_of_enabled z _ henabled,
      Zone.deliver_of_limit (hdelivery.trans hpending) (hcount.trans hcounter) (hnot.trans hmark)
        (fun heq => hecho (heq.2.trans hrequest).symm)]
    exact ⟨rfl, rfl, hdelivery.trans hpending⟩

/-- Settles O24, from the zone's derivation. -/
theorem zoneSweepLimits : Obligations.ZoneSweepLimits := by
  refine ⟨fun s z hreport hlive hcount => ?_, fun s z hpending hcounter hmark hr => ?_⟩
  · have hzone : s.sweepEnd.zones[z].rstate = .stale ∧ s.sweepEnd.zones[z].heldCount = 9
        ∧ s.sweepEnd.zones[z].reading = s.zones[z].reading := by
      rw [State.sweepEnd_zone, hreport, Zone.derive_held, Zone.deliver_rstate, Zone.deliver_heldCount,
        Zone.deliver_reading, Zone.toHeld_of_live hlive, hcount]
      exact ⟨rfl, rfl, rfl⟩
    have hdue : s.staleDue z = true := by
      rcases hlive with h | h <;> rw [State.staleDue, h, hzone.1] <;> rfl
    refine ⟨s.sweepEnd.deliver, State.sweepWhen_done hdue, rfl, ?_⟩
    rw [State.deliver_zones]
    exact hzone
  · have hzone : s.sweepEnd.zones[z].notApplied = true ∧ s.sweepEnd.zones[z].counter = 30
        ∧ s.sweepEnd.zones[z].delivery = .pending := by
      rw [State.sweepEnd_zone]
      exact Zone.derive_of_limit hpending hcounter hmark hr
    have hdue : s.notAppliedDue z = true := by
      rw [State.notAppliedDue, hmark, hzone.1]
      rfl
    refine ⟨s.sweepEnd.deliver, State.sweepWhen_done hdue, rfl, ?_⟩
    rw [State.deliver_zones]
    exact hzone

/-! ## The dose step -/

/-- The judgement of a CURING daylight touches its state, its fault reason, its sweeps and its record (R54 to R56). -/
theorem Daylight.judge_frame (c : Daylight) (gapKind : Bool) (now : Time) : c.judge gapKind now = { c with
    state := (c.judge gapKind now).state, fault := (c.judge gapKind now).fault
    sweeps := (c.judge gapKind now).sweeps, record := (c.judge gapKind now).record } := by
  simp only [Daylight.judge]
  split_ifs <;> rfl

/-- R54, R56: below the dose target, a consecutive gap past the maximum faults with CURE GAP. -/
theorem Daylight.judge_of_gap {c : Daylight} (hdose : c.dose < c.recipe.doseTarget) (hgap : c.recipe.maxGap < c.gap)
    (now : Time) : c.judge true now
      = ({ c with sweeps := min max32 (c.sweeps + 1) } : Daylight).toFaulted .cureGap := by
  rw [Daylight.judge, if_neg (Nat.not_le.mpr hdose), if_pos ⟨rfl, hgap⟩]

/-- R54, R56: below the dose target and the maximum gap, the maximum cure time faults with CURE TIMEOUT. -/
theorem Daylight.judge_of_timeout {c : Daylight} {gapKind : Bool} (hdose : c.dose < c.recipe.doseTarget)
    (hgap : ¬ (gapKind = true ∧ c.recipe.maxGap < c.gap))
    (hcure : c.recipe.maxCure * 100 ≤ min max32 (c.sweeps + 1)) (now : Time) : c.judge gapKind now
      = ({ c with sweeps := min max32 (c.sweeps + 1) } : Daylight).toFaulted .cureTimeout := by
  rw [Daylight.judge, if_neg (Nat.not_le.mpr hdose), if_neg hgap, if_pos hcure]

/-- R51 to R53: what a sweep counts for a daylight whose dose step runs is what its kind says. -/
theorem Daylight.doseStep_counts {c : Daylight} {closed : Bool}
    (h : c.state = .curing ∨ (c.state = .cured ∧ closed = true)) (readings : Option (List Nat)) (now : Time) :
    (c.doseStep closed readings now).dose = (c.sweep readings).dose
      ∧ (c.doseStep closed readings now).gap = (c.sweep readings).gap
      ∧ (c.doseStep closed readings now).totalGap = (c.sweep readings).totalGap
      ∧ (c.doseStep closed readings now).minTemp = (c.sweep readings).minTemp
      ∧ (c.doseStep closed readings now).maxTemp = (c.sweep readings).maxTemp := by
  rcases h with hcuring | ⟨hcured, rfl⟩
  · rw [doseStep_of_curing hcuring, Daylight.judge_frame]
    exact ⟨rfl, rfl, rfl, rfl, rfl⟩
  · rw [doseStep_of_cured hcured]
    exact ⟨rfl, rfl, rfl, rfl, rfl⟩

/-- Settles O26, by the kind of the sweep. -/
theorem doseStepBySweepKind : Obligations.DoseStepBySweepKind := by
  refine fun c closed now => ⟨fun readings hruns => ?_, fun readings hidle => Daylight.doseStep_of_other hidle _ _⟩
  obtain ⟨hdose, hgap, htotal, hmin, hmax⟩ := Daylight.doseStep_counts hruns readings now
  refine ⟨fun l hl => ?_, fun hnone => ?_⟩
  · subst hl
    exact ⟨hdose, hgap, htotal, hmin, hmax⟩
  · subst hnone
    exact ⟨hdose, hmin, hmax, hgap, htotal⟩

/-- A sweep of a daylight does not read its record, and leaves its recipe and its sweep count. -/
theorem Daylight.sweep_of_record (c : Daylight) (r : Option OpenRecord) (readings : Option (List Nat)) :
    (({ c with record := r } : Daylight).sweep readings).dose = (c.sweep readings).dose
      ∧ (({ c with record := r } : Daylight).sweep readings).gap = (c.sweep readings).gap
      ∧ (({ c with record := r } : Daylight).sweep readings).recipe = c.recipe
      ∧ (({ c with record := r } : Daylight).sweep readings).sweeps = c.sweeps := by
  cases readings <;> exact ⟨rfl, rfl, rfl, rfl⟩

/-- R51: a CURING daylight after a sweep end has been judged on the zones so derived. -/
theorem State.sweepEnd_day_of_curing {s : State} {d : Fin 4} {readings : Option (List Nat)}
    (hreadings : readings = trustedReadings
      ((s.cell.doseZones d).map fun z => ((deriveZones s.cell s.zones s.sweepReports)[z]).zone))
    (h : s.days[d].state = .curing) :
    ∃ y : Daylight, y.dose = (s.days[d].sweep readings).dose ∧ y.gap = (s.days[d].sweep readings).gap
      ∧ y.recipe = s.days[d].recipe ∧ y.sweeps = s.days[d].sweeps
      ∧ s.sweepEnd.days[d] = (y.judge readings.isNone s.time).markDegraded s.sweepStep.link.state := by
  obtain ⟨r, -, hday⟩ := s.sweepEnd_day d
  obtain ⟨hdose, hgap, hrecipe, hsweeps⟩ := s.days[d].sweep_of_record r readings
  refine ⟨_, hdose, hgap, hrecipe, hsweeps, ?_⟩
  simp only [State.sweepEnd_zones, getElem_ofFn_fin] at hday
  rw [hday, ← hreadings, Daylight.doseStep_of_curing (c := { s.days[d] with record := r }) h]

theorem Daylight.markDegraded_state (c : Daylight) (l : LinkState) : (c.markDegraded l).state = c.state := by
  unfold Daylight.markDegraded
  split <;> rfl

theorem Daylight.markDegraded_fault (c : Daylight) (l : LinkState) : (c.markDegraded l).fault = c.fault := by
  unfold Daylight.markDegraded
  split <;> rfl

/-- A sweep end that faults a CURING daylight is the row that names the fault. -/
theorem State.cureFault_named {s : State} {d : Fin 4} {reason : FaultReason} (h : s.days[d].state = .curing)
    (hday : s.sweepEnd.days[d].state = .faulted ∧ s.sweepEnd.days[d].fault = reason) :
    (s.sweepWhen (s.cureFaultDue d reason)).done = .next s.sweepEnd.deliver
      ∧ s.sweepEnd.deliver.days[d].state = .faulted ∧ s.sweepEnd.deliver.days[d].fault = reason := by
  rw [State.deliver_days]
  refine ⟨State.sweepWhen_done ?_, hday⟩
  rw [State.cureFaultDue, h, hday.1, hday.2]
  simp

/-- Settles O25, from the judgement of the daylight's dose step. -/
theorem cureFaults : Obligations.CureFaults := by
  intro s d readings hreadings hcuring hdose
  obtain ⟨y, hydose, hygap, hyrecipe, hysweeps, hday⟩ := State.sweepEnd_day_of_curing hreadings hcuring
  rw [← hydose, ← hyrecipe] at hdose
  rw [← hygap, ← hyrecipe, ← hysweeps]
  refine ⟨fun hnone hgap => ?_, fun hno hcure => ?_⟩
  · have hfault : s.sweepEnd.days[d].state = .faulted ∧ s.sweepEnd.days[d].fault = .cureGap := by
      rw [hday, hnone, Daylight.markDegraded_state, Daylight.markDegraded_fault, Option.isNone_none,
        Daylight.judge_of_gap hdose hgap]
      exact ⟨rfl, rfl⟩
    obtain ⟨hexec, hstate, hreason⟩ := State.cureFault_named hcuring hfault
    exact ⟨s.sweepEnd.deliver, hexec, rfl, hstate, hreason⟩
  · have hfault : s.sweepEnd.days[d].state = .faulted ∧ s.sweepEnd.days[d].fault = .cureTimeout := by
      rw [hday, Daylight.markDegraded_state, Daylight.markDegraded_fault,
        Daylight.judge_of_timeout hdose (by rwa [Option.isNone_iff_eq_none]) hcure]
      exact ⟨rfl, rfl⟩
    obtain ⟨hexec, hstate, hreason⟩ := State.cureFault_named hcuring hfault
    exact ⟨s.sweepEnd.deliver, hexec, rfl, hstate, hreason⟩

end Sys2Proof.Machine
end

section
/-! The link evaluation of a sweep end (R5 to R19), one fact per step of it: what each step keeps, what it reports. -/

namespace Sys2Proof.Machine

/-! ## The frame of the period -/

theorem goodFrame_of_none {l : Link} (h : findFrame l.received = none) (w : Sweep) : goodFrame l w = none := by
  rw [goodFrame, h]

theorem goodFrame_of_bad {l : Link} {w : Sweep} {frame : List Byte} (h : findFrame l.received = some frame)
    (hbad : headerGood frame w.count = false) : goodFrame l w = none := by
  rw [goodFrame, h]
  simp [hbad]

theorem goodFrame_of_good {l : Link} {w : Sweep} {frame : List Byte} (h : findFrame l.received = some frame)
    (hgood : headerGood frame w.count = true) : goodFrame l w = some frame := by
  rw [goodFrame, h]
  simp [hgood]

/-! ## The counter changes (R5 to R7, R9, R18) -/

theorem Link.countSweep_of_good {l : Link} {w : Sweep} {frame : List Byte} (h : goodFrame l w = some frame) :
    l.countSweep w = l.goodHeader w frame := by
  rw [Link.countSweep, h]

theorem Link.countSweep_of_bad {l : Link} {w : Sweep} (h : goodFrame l w = none) :
    l.countSweep w = LinkStep.of (l.badHeader (findFrame l.received).isSome) := by
  rw [Link.countSweep, h]

/-- A good header moves the health counter, the modules and the queue, and nothing else. -/
theorem Link.goodHeader_frame (l : Link) (w : Sweep) (frame : List Byte) : (l.goodHeader w frame).link = { l with
    health := (l.goodHeader w frame).link.health
    modules := Vector.ofFn fun p => l.modules[p].applyPlace (placeClass w frame p) (sectionOf frame p)
    queue := l.queue ++ (List.finRange 10).filter (attends l w frame) } := by
  unfold Link.goodHeader Link.raiseHealth
  split <;> rfl

/-- R6, R9: the health counter after a good header. -/
theorem Link.goodHeader_health (l : Link) (w : Sweep) (frame : List Byte) : (l.goodHeader w frame).link.health
    = if checkErrors w frame = 0 then min Config.healthMax l.health - 1
      else min Config.healthMax (l.health + checkErrors w frame) := by
  unfold Link.goodHeader Link.raiseHealth
  split
  · next h => rw [h]; rfl
  · rfl

/-- A header that is not good moves the health counter and the modules, and nothing else. -/
theorem Link.badHeader_frame (l : Link) (arrived : Bool) : l.badHeader arrived = { l with
    health := min Config.healthMax (l.health + 8)
    modules := if arrived = true then l.modules else Vector.ofFn fun p => l.modules[p].missed } := by
  cases arrived <;> rfl

/-- The counter changes leave the state, the discovery and the command slot's ride alone, and complete nothing. -/
theorem Link.countSweep_frame (l : Link) (w : Sweep) : (l.countSweep w).link = { l with
      health := (l.countSweep w).link.health, modules := (l.countSweep w).link.modules
      queue := (l.countSweep w).link.queue }
    ∧ (l.countSweep w).completion = none := by
  cases h : goodFrame l w with
  | some frame =>
    rw [Link.countSweep_of_good h, Link.goodHeader_frame]
    exact ⟨rfl, rfl⟩
  | none =>
    rw [Link.countSweep_of_bad h, LinkStep.of, Link.badHeader_frame]
    exact ⟨rfl, rfl⟩

@[simp] theorem Link.countSweep_state (l : Link) (w : Sweep) : (l.countSweep w).link.state = l.state := by
  rw [(l.countSweep_frame w).1]
@[simp] theorem Link.countSweep_found (l : Link) (w : Sweep) : (l.countSweep w).link.found = l.found := by
  rw [(l.countSweep_frame w).1]
@[simp] theorem Link.countSweep_probes (l : Link) (w : Sweep) : (l.countSweep w).link.probes = l.probes := by
  rw [(l.countSweep_frame w).1]
@[simp] theorem Link.countSweep_restart (l : Link) (w : Sweep) : (l.countSweep w).link.restart = l.restart := by
  rw [(l.countSweep_frame w).1]

theorem Module.missed_state (m : Module) : m.missed.state = m.state := by
  unfold Module.missed
  split <;> rfl

theorem Module.missed_of_counted {m : Module} (h : m.counted = true) :
    m.missed = { m with miss := min Config.missLimit (m.miss + 1) } := by
  rw [Module.missed, if_pos h]

theorem Module.missed_of_not_counted {m : Module} (h : m.counted = false) : m.missed = m := by
  rw [Module.missed, h]
  rfl

theorem Module.missed_miss_le (m : Module) : m.missed.miss ≤ m.miss + 1 := by
  unfold Module.missed
  split
  · exact Nat.min_le_right _ _
  · exact Nat.le_succ _

theorem Module.applyPlace_state (m : Module) (cls : PlaceClass) (sec : List Byte) :
    (m.applyPlace cls sec).state = m.state := by
  unfold Module.applyPlace
  split
  · rfl
  · exact m.missed_state
  · rfl
  · exact m.missed_state
  · rfl

theorem Module.applyPlace_miss_le (m : Module) (cls : PlaceClass) (sec : List Byte) :
    (m.applyPlace cls sec).miss ≤ m.miss + 1 := by
  unfold Module.applyPlace
  split
  · exact Nat.zero_le _
  · exact m.missed_miss_le
  · exact Nat.zero_le _
  · exact m.missed_miss_le
  · exact Nat.le_succ _

/-- The counter changes keep every module's state, and count one miss at most. -/
theorem Link.countSweep_module (l : Link) (w : Sweep) (p : Fin 10) :
    (l.countSweep w).link.modules[p].state = l.modules[p].state
      ∧ (l.countSweep w).link.modules[p].miss ≤ l.modules[p].miss + 1 := by
  cases h : goodFrame l w with
  | some frame =>
    rw [Link.countSweep_of_good h, Link.goodHeader_frame, getElem_ofFn_fin]
    exact ⟨Module.applyPlace_state _ _ _, Module.applyPlace_miss_le _ _ _⟩
  | none =>
    rw [Link.countSweep_of_bad h, LinkStep.of, Link.badHeader_frame]
    cases (findFrame l.received).isSome with
    | true => exact ⟨rfl, Nat.le_succ _⟩
    | false =>
      simp only [Bool.false_eq_true, if_false, getElem_ofFn_fin]
      exact ⟨Module.missed_state _, Module.missed_miss_le _⟩

theorem Module.counted_congr {m m' : Module} (h : m.state = m'.state) : m.counted = m'.counted := by
  rw [Module.counted, h, Module.counted]

theorem checkErrors_le (w : Sweep) (frame : List Byte) : checkErrors w frame ≤ 10 :=
  (List.length_filter_le _ _).trans (List.length_finRange).le

/-- One sweep raises the health counter by 10 at most. -/
theorem Link.countSweep_health_le (l : Link) (w : Sweep) : (l.countSweep w).link.health ≤ l.health + 10 := by
  cases h : goodFrame l w with
  | some frame =>
    rw [Link.countSweep_of_good h, Link.goodHeader_health]
    have := checkErrors_le w frame
    split <;> omega
  | none =>
    rw [Link.countSweep_of_bad h, LinkStep.of, Link.badHeader_frame]
    simp only
    omega

/-- The reports of the counter changes: PENDING details of the modules that join the queue (R18). -/
theorem Link.mem_countSweep_reports {l : Link} {w : Sweep} {r : Report} (h : r ∈ (l.countSweep w).reports) :
    ∃ (frame : List Byte) (p : Fin 10), goodFrame l w = some frame ∧ attends l w frame p = true
      ∧ r = .cause .moduleAttention (byteOf p.val) 0 := by
  cases hframe : goodFrame l w with
  | some frame =>
    rw [Link.countSweep_of_good hframe] at h
    obtain ⟨p, hp, rfl⟩ := List.mem_map.mp h
    exact ⟨frame, p, rfl, (List.mem_filter.mp hp).2, rfl⟩
  | none =>
    rw [Link.countSweep_of_bad hframe] at h
    cases h

/-! ## The loss test (R8, R20) -/

theorem LinkStep.lossTest_of_none {x : LinkStep} (h : x.link.breakPoint = none) : x.lossTest = x := by
  rw [LinkStep.lossTest, h]

/-- R8: the loss test at a break point. -/
theorem LinkStep.lossTest_of_break {x : LinkStep} {b : Fin 10} (h : x.link.breakPoint = some b) : x.lossTest
    = { link := { x.link with
          queue := x.link.queue.filter fun p => !x.link.lostAt b p
          ride := (x.dropQueue (x.link.lostAt b)).link.ride
          modules := Vector.ofFn fun p =>
            if x.link.lostAt b p then x.link.modules[p].lose else x.link.modules[p] }
        reports := x.reports ++ (x.link.queue.filter (x.link.lostAt b)).map (fun p => .resolution p 0xFF)
          ++ ((List.finRange 10).filter (x.link.lostAt b)).map
            (fun p => .cause .moduleLost (byteOf p.val) (byteOf b.val))
        completion := x.completion } := by
  rw [LinkStep.lossTest, h]
  rfl

/-- The loss test moves the modules, the queue and its head's ride, and completes nothing. -/
theorem LinkStep.lossTest_frame (x : LinkStep) : x.lossTest.link = { x.link with
      queue := x.lossTest.link.queue, ride := x.lossTest.link.ride, modules := x.lossTest.link.modules }
    ∧ x.lossTest.completion = x.completion := by
  cases h : x.link.breakPoint with
  | none => rw [LinkStep.lossTest_of_none h]; exact ⟨rfl, rfl⟩
  | some b => rw [LinkStep.lossTest_of_break h]; exact ⟨rfl, rfl⟩

@[simp] theorem LinkStep.lossTest_state (x : LinkStep) : x.lossTest.link.state = x.link.state := by
  rw [x.lossTest_frame.1]
@[simp] theorem LinkStep.lossTest_health (x : LinkStep) : x.lossTest.link.health = x.link.health := by
  rw [x.lossTest_frame.1]
@[simp] theorem LinkStep.lossTest_found (x : LinkStep) : x.lossTest.link.found = x.link.found := by
  rw [x.lossTest_frame.1]
@[simp] theorem LinkStep.lossTest_probes (x : LinkStep) : x.lossTest.link.probes = x.link.probes := by
  rw [x.lossTest_frame.1]
@[simp] theorem LinkStep.lossTest_restart (x : LinkStep) : x.lossTest.link.restart = x.link.restart := by
  rw [x.lossTest_frame.1]

/-- R8: no counted module has missed 32 sweeps, so the chain holds. -/
theorem Link.breakPoint_of_few_misses {l : Link} (h : ∀ p : Fin 10, l.modules[p].miss < Config.missLimit) :
    l.breakPoint = none :=
  List.find?_eq_none.mpr fun p _ => by
    have := Nat.not_le.mpr (h p)
    simp [this, -Fin.getElem_fin]

/-- The reports of the loss test: LOST details of queued modules, and MODULE LOST (R8, R20). -/
theorem LinkStep.mem_lossTest_reports {x : LinkStep} {r : Report} (h : r ∈ x.lossTest.reports) :
    r ∈ x.reports ∨ (∃ q : Fin 10, q ∉ x.lossTest.link.queue ∧ r = .resolution q 0xFF) ∨ r.kind = .moduleLost := by
  cases hbreak : x.link.breakPoint with
  | none =>
    rw [LinkStep.lossTest_of_none hbreak] at h
    exact .inl h
  | some b =>
    rw [LinkStep.lossTest_of_break hbreak] at h ⊢
    simp only [List.mem_append, List.mem_map, List.mem_filter] at h
    rcases h with (h | ⟨q, ⟨-, hgone⟩, rfl⟩) | ⟨q, -, rfl⟩
    · exact .inl h
    · exact .inr (.inl ⟨q, by simp [hgone], rfl⟩)
    · exact .inr (.inr rfl)

theorem LinkStep.lossTest_reports_subset (x : LinkStep) : x.reports ⊆ x.lossTest.reports := by
  cases hbreak : x.link.breakPoint with
  | none => rw [LinkStep.lossTest_of_none hbreak]; exact List.Subset.refl _
  | some b =>
    rw [LinkStep.lossTest_of_break hbreak]
    exact fun r hr => List.mem_append_left _ (List.mem_append_left _ hr)

theorem LinkStep.lossTest_queue_subset (x : LinkStep) : x.lossTest.link.queue ⊆ x.link.queue := by
  cases hbreak : x.link.breakPoint with
  | none => rw [LinkStep.lossTest_of_none hbreak]; exact List.Subset.refl _
  | some b => rw [LinkStep.lossTest_of_break hbreak]; exact fun q hq => (List.mem_filter.mp hq).1

/-! ## The state test (R11, R12) -/

/-- R12: what a full counter makes of a link that exchanges frames. -/
theorem LinkStep.stateTest_of_full {x : LinkStep} (h : x.link.state.frames = true ∧ Config.healthMax ≤ x.link.health)
    (before : Nat) : x.stateTest before = x.goOffline := by
  rw [LinkStep.stateTest, if_pos h]

/-- R11: the counter at 128 makes a RUNNING link DEGRADED. -/
theorem LinkStep.stateTest_of_degrading {x : LinkStep} (hstate : x.link.state = .running)
    (hat : Config.degradeAt ≤ x.link.health) (hbelow : x.link.health < Config.healthMax) (before : Nat) :
    x.stateTest before = { x with
      link := { x.link with state := .degraded }
      reports := x.reports ++ [.cause .linkDegraded 0 (byteOf x.link.health)] } := by
  have hno : ¬ (x.link.state.frames = true ∧ Config.healthMax ≤ x.link.health) := fun h => by omega
  rw [LinkStep.stateTest, if_neg hno, hstate]
  simp only [if_pos hat]

/-- R11: below 128, a RUNNING link keeps its state; only LINK WARNED may come. -/
theorem LinkStep.stateTest_of_running {x : LinkStep} (hstate : x.link.state = .running)
    (hbelow : x.link.health < Config.degradeAt) (before : Nat) :
    x.stateTest before = if Config.warnAt ≤ x.link.health ∧ before < Config.warnAt then
      { x with reports := x.reports ++ [.cause .linkWarned 0 (byteOf x.link.health)] } else x := by
  have hno : ¬ (x.link.state.frames = true ∧ Config.healthMax ≤ x.link.health) := fun h => by
    simp only [Config.degradeAt, Config.healthMax] at hbelow h
    omega
  rw [LinkStep.stateTest, if_neg hno, hstate]
  simp only [if_neg (Nat.not_le.mpr hbelow)]

/-- R11: a DEGRADED link comes back below 96. -/
theorem LinkStep.stateTest_of_degraded {x : LinkStep} (hstate : x.link.state = .degraded)
    (hbelow : x.link.health < Config.healthMax) (before : Nat) :
    x.stateTest before
      = if x.link.health < Config.warnAt then { x with link := { x.link with state := .running } } else x := by
  have hno : ¬ (x.link.state.frames = true ∧ Config.healthMax ≤ x.link.health) := fun h => by omega
  rw [LinkStep.stateTest, if_neg hno, hstate]

/-- R11: a DISCOVERING link below 256 is left as it is. -/
theorem LinkStep.stateTest_of_discovering {x : LinkStep} (hstate : x.link.state = .discovering)
    (hbelow : x.link.health < Config.healthMax) (before : Nat) : x.stateTest before = x := by
  have hno : ¬ (x.link.state.frames = true ∧ Config.healthMax ≤ x.link.health) := fun h => by omega
  rw [LinkStep.stateTest, if_neg hno, hstate]

/-- R11: below 96 a RUNNING link is left as it is. -/
theorem LinkStep.stateTest_of_healthy {x : LinkStep} (hstate : x.link.state = .running)
    (hbelow : x.link.health < Config.warnAt) (before : Nat) : x.stateTest before = x := by
  rw [LinkStep.stateTest_of_running hstate (hbelow.trans (by decide)), if_neg (fun h => by omega)]

/-- The state test takes the link OFFLINE, or moves the state alone and reports LINK DEGRADED or LINK WARNED. -/
theorem LinkStep.stateTest_cases (x : LinkStep) (before : Nat) : x.stateTest before = x.goOffline
    ∨ ∃ (st : LinkState) (rs : List Report), (∀ r ∈ rs, r.kind = .linkDegraded ∨ r.kind = .linkWarned)
      ∧ x.stateTest before = { x with link := { x.link with state := st }, reports := x.reports ++ rs } := by
  have same : ∃ (st : LinkState) (rs : List Report), (∀ r ∈ rs, r.kind = .linkDegraded ∨ r.kind = .linkWarned)
      ∧ x = { x with link := { x.link with state := st }, reports := x.reports ++ rs } :=
    ⟨x.link.state, [], by simp, by simp⟩
  unfold LinkStep.stateTest
  split
  · exact .inl rfl
  · refine .inr ?_
    split
    · split
      · exact ⟨.degraded, [_], fun r hr => .inl (List.mem_singleton.mp hr ▸ rfl), rfl⟩
      · split
        · exact ⟨x.link.state, [_], fun r hr => .inr (List.mem_singleton.mp hr ▸ rfl), rfl⟩
        · exact same
    · split
      · exact ⟨.running, [], by simp, by simp⟩
      · exact same
    · exact same
    · exact same
    · exact same

theorem Module.counted_lose (m : Module) : m.lose.counted = false := rfl

/-- R12, R20: an OFFLINE link: no counted module, no queue, no RESTART LINK pending, LINK OFFLINE reported. -/
theorem LinkStep.goOffline_spec (x : LinkStep) : x.goOffline.link.state = .offline ∧ x.goOffline.link.queue = []
    ∧ x.goOffline.link.restart = false ∧ x.goOffline.link.found = x.link.found
    ∧ (∀ p : Fin 10, x.goOffline.link.modules[p]
        = if x.link.modules[p].counted = true then x.link.modules[p].lose else x.link.modules[p])
    ∧ .cause .linkOffline 0 0 ∈ x.goOffline.reports := by
  refine ⟨rfl, ?_, rfl, rfl, fun p => ?_, ?_⟩
  · simp [LinkStep.goOffline, LinkStep.dropQueue]
  · rw [LinkStep.goOffline, getElem_ofFn_fin]
    rfl
  · exact List.mem_append_right _ (List.mem_singleton.mpr rfl)

theorem LinkStep.stateTest_reports_subset (x : LinkStep) (before : Nat) :
    x.reports ⊆ (x.stateTest before).reports := by
  rcases x.stateTest_cases before with h | ⟨st, rs, -, h⟩
  · rw [h]
    exact fun r hr => List.mem_append_left _ (List.mem_append_left _ hr)
  · rw [h]
    exact fun r hr => List.mem_append_left _ hr

/-! ## The discovery step (R15 to R17) -/

theorem LinkStep.discover_of_not_discovering {x : LinkStep} (h : x.link.state ≠ .discovering) (m : CellMap) (w : Sweep)
    (frame? : Option (List Byte)) (before : Nat) : x.discover m w frame? before = x := by
  rw [LinkStep.discover, if_pos h]

theorem LinkStep.discover_of_detail {x : LinkStep} {w : Sweep} {p : Fin 10} (h : w.slot = .detail p) (m : CellMap)
    (frame? : Option (List Byte)) (before : Nat) : x.discover m w frame? before = x := by
  unfold LinkStep.discover
  rw [h]
  split <;> rfl

/-- R15: the discovery step of a probe at position `n` that was answered. -/
theorem LinkStep.discover_of_answer {x : LinkStep} {w : Sweep} {k : Nat} {n : Fin 10} {channels : Byte}
    {frame? : Option (List Byte)} (hstate : x.link.state = .discovering) (hslot : w.slot = .discover k)
    (hn : x.link.found = n.val) (hanswer : identityAnswer w frame? n = some channels) (m : CellMap) (before : Nat) :
    x.discover m w frame? before = x.identify m n channels before := by
  have hlt : x.link.found < 10 := hn ▸ n.isLt
  have hfin : (⟨x.link.found, hlt⟩ : Fin 10) = n := Fin.ext hn
  rw [LinkStep.discover, if_neg (not_not.mpr hstate), hslot]
  simp only [dif_pos hlt, hfin, hanswer]

/-- R16: the discovery step of a probe at position `n` that was not answered. -/
theorem LinkStep.discover_of_silence {x : LinkStep} {w : Sweep} {k : Nat} {n : Fin 10}
    {frame? : Option (List Byte)} (hstate : x.link.state = .discovering) (hslot : w.slot = .discover k)
    (hn : x.link.found = n.val) (hanswer : identityAnswer w frame? n = none) (m : CellMap) (before : Nat) :
    x.discover m w frame? before = x.unanswered m before := by
  have hlt : x.link.found < 10 := hn ▸ n.isLt
  have hfin : (⟨x.link.found, hlt⟩ : Fin 10) = n := Fin.ext hn
  rw [LinkStep.discover, if_neg (not_not.mpr hstate), hslot]
  simp only [dif_pos hlt, hfin, hanswer]

/-! ## The detail fetch (R19) -/

/-- The detail step moves the queue and its head's ride, and completes nothing. -/
theorem LinkStep.detailStep_frame (x : LinkStep) (w : Sweep) (frame? : Option (List Byte)) :
    (x.detailStep w frame?).link = { x.link with
      queue := (x.detailStep w frame?).link.queue, ride := (x.detailStep w frame?).link.ride }
    ∧ (x.detailStep w frame?).completion = x.completion
    ∧ (x.detailStep w frame?).link.queue ⊆ x.link.queue
    ∧ ∃ rs : List Report, (x.detailStep w frame?).reports = x.reports ++ rs ∧ ∀ r ∈ rs, r.kind = .moduleAttention := by
  unfold LinkStep.detailStep
  split
  · exact ⟨rfl, rfl, List.Subset.refl _, [], by simp⟩
  · exact ⟨rfl, rfl, List.Subset.refl _, [], by simp⟩
  · split
    · exact ⟨rfl, rfl, List.Subset.refl _, [], by simp⟩
    · split
      · exact ⟨rfl, rfl, List.tail_subset _, [_], rfl, fun r hr => List.mem_singleton.mp hr ▸ rfl⟩
      · split
        · exact ⟨rfl, rfl, List.Subset.refl _, [], by simp⟩
        · exact ⟨rfl, rfl, List.tail_subset _, [_], rfl, fun r hr => List.mem_singleton.mp hr ▸ rfl⟩

@[simp] theorem LinkStep.detailStep_state (x : LinkStep) (w : Sweep) (f : Option (List Byte)) :
    (x.detailStep w f).link.state = x.link.state := by rw [(x.detailStep_frame w f).1]
@[simp] theorem LinkStep.detailStep_health (x : LinkStep) (w : Sweep) (f : Option (List Byte)) :
    (x.detailStep w f).link.health = x.link.health := by rw [(x.detailStep_frame w f).1]
@[simp] theorem LinkStep.detailStep_modules (x : LinkStep) (w : Sweep) (f : Option (List Byte)) :
    (x.detailStep w f).link.modules = x.link.modules := by rw [(x.detailStep_frame w f).1]

theorem LinkStep.detailStep_reports_subset (x : LinkStep) (w : Sweep) (f : Option (List Byte)) :
    x.reports ⊆ (x.detailStep w f).reports := by
  obtain ⟨-, -, -, rs, h, -⟩ := x.detailStep_frame w f
  rw [h]
  exact List.subset_append_left _ _

theorem LinkStep.detailStep_of_none {w : Sweep} (h : w.slot = .none) (x : LinkStep) (f : Option (List Byte)) :
    x.detailStep w f = x := by
  rw [LinkStep.detailStep, h]

theorem LinkStep.detailStep_of_discover {w : Sweep} {n : Nat} (h : w.slot = .discover n) (x : LinkStep)
    (f : Option (List Byte)) : x.detailStep w f = x := by
  rw [LinkStep.detailStep, h]

/-- R19: the head of the queue, having ridden the slot without an answer for the thirtieth time. -/
theorem LinkStep.detailStep_of_limit {x : LinkStep} {w : Sweep} {p : Fin 10} {rest : List (Fin 10)}
    {f : Option (List Byte)} (hslot : w.slot = .detail p) (hqueue : x.link.queue = p :: rest)
    (hanswer : detailAnswer w f p = none) (hride : Config.rideLimit ≤ x.link.ride + 1) : x.detailStep w f = { x with
      link := { x.link with queue := rest, ride := 0 }, reports := x.reports ++ [.resolution p 0xFF] } := by
  have hhead : ¬ (p :: rest).head? ≠ some p := by simp
  rw [LinkStep.detailStep, hslot]
  simp only [hqueue, if_neg hhead, hanswer, if_neg (Nat.not_lt.mpr hride), List.tail_cons]

/-- R19: the head of the queue with its detail code. -/
theorem LinkStep.detailStep_of_answer {x : LinkStep} {w : Sweep} {p : Fin 10} {rest : List (Fin 10)}
    {f : Option (List Byte)} {code : Byte} (hslot : w.slot = .detail p) (hqueue : x.link.queue = p :: rest)
    (hanswer : detailAnswer w f p = some code) : x.detailStep w f = { x with
      link := { x.link with queue := rest, ride := 0 }, reports := x.reports ++ [.resolution p code] } := by
  have hhead : ¬ (p :: rest).head? ≠ some p := by simp
  rw [LinkStep.detailStep, hslot]
  simp only [hqueue, if_neg hhead, hanswer, List.tail_cons]

/-! ## The whole evaluation -/

theorem State.sweepStep_of_inFlight {s : State} {w : Sweep} (hw : s.link.inFlight = some w)
    (hr : s.link.restarted = false) :
    s.sweepStep = (s.link.beforeDetail s.cell w).detailStep w (goodFrame s.link w) :=
  Link.sweepStep_of_inFlight hw hr s.cell

/-- R6 to R17: the evaluation of a link that does not discover ends with the state test. -/
theorem Link.beforeDetail_of_not_discovering {l : Link} {w : Sweep}
    (h : (((l.countSweep w).lossTest).stateTest l.health).link.state ≠ .discovering) (m : CellMap) :
    l.beforeDetail m w = ((l.countSweep w).lossTest).stateTest l.health := by
  rw [Link.beforeDetail, LinkStep.discover_of_not_discovering h]

/-- A RUNNING link far from every threshold: the evaluation is its counter changes. -/
theorem Link.beforeDetail_of_calm {l : Link} (hstate : l.state = .running) (hhealth : l.health < 80)
    (hmiss : ∀ p : Fin 10, l.modules[p].miss < 31) (m : CellMap) (w : Sweep) :
    l.beforeDetail m w = l.countSweep w := by
  have hbreak : (l.countSweep w).link.breakPoint = none := Link.breakPoint_of_few_misses fun p => by
    have h1 := (l.countSweep_module w p).2
    have h2 := hmiss p
    simp only [Config.missLimit]
    omega
  have hlow : (l.countSweep w).link.health < Config.warnAt := by
    have := l.countSweep_health_le w
    simp only [Config.warnAt]
    omega
  have hrun : (l.countSweep w).link.state = .running := by rw [Link.countSweep_state, hstate]
  have htest : ((l.countSweep w).lossTest).stateTest l.health = l.countSweep w := by
    rw [LinkStep.lossTest_of_none hbreak, LinkStep.stateTest_of_healthy hrun hlow]
  rw [Link.beforeDetail_of_not_discovering (by rw [htest, hrun]; simp), htest]

end Sys2Proof.Machine
end

section
/-! The statements on the link's sweep end (R5 to R20), from the facts on each step of its evaluation. -/

namespace Sys2Proof.Machine

/-! ## The link and the reports of a sweep end with a sweep in flight -/

/-- The link after a sweep end whose sweep is evaluated, up to what the next period sets (R2, R10). -/
theorem State.sweepEnd_deliver_link {s : State} {x : LinkStep} (h : s.sweepStep = x) :
    ∃ zones, s.sweepEnd.deliver.link = x.link.startPeriod s.cell zones :=
  ⟨s.sweepEnd.zones, by rw [State.deliver_link, State.sweepEnd_link, h]⟩

/-- A report of the evaluation before the detail step is a report of the sweep end's link step. -/
theorem State.mem_sweepStep_reports {s : State} {w : Sweep} (hw : s.link.inFlight = some w)
    (hr : s.link.restarted = false) {r : Report} (h : r ∈ (s.link.beforeDetail s.cell w).reports) :
    r ∈ s.sweepStep.reports := by
  rw [State.sweepStep_of_inFlight hw hr]
  exact LinkStep.detailStep_reports_subset _ _ _ h

/-- The one report of its kind that the evaluation makes is shown after the sweep end. -/
theorem State.sweepEnd_shows_only {s : State} {w : Sweep} (hoffers : s.offers = []) (hw : s.link.inFlight = some w)
    (hr : s.link.restarted = false) {k : CauseKind} {source detail : Byte} {old : List Report}
    (hreports : (s.link.beforeDetail s.cell w).reports = old ++ [.cause k source detail])
    (hold : ∀ r ∈ old, r.kind ≠ k) (hk : k ∉ zoneAndDoseKinds) (hdetail : k ≠ .moduleAttention) :
    s.sweepEnd.deliver.shows k source detail := by
  refine State.sweepEnd_shows hoffers hk ⟨.cause k source detail, State.mem_sweepStep_reports hw hr ?_, rfl, rfl⟩ ?_
  · rw [hreports]
    exact List.mem_append_right _ (List.mem_singleton.mpr rfl)
  · intro r hmem hnames
    rw [State.sweepStep_of_inFlight hw hr] at hmem
    obtain ⟨-, -, -, rs, hrs, hkinds⟩ :=
      (s.link.beforeDetail s.cell w).detailStep_frame w (goodFrame s.link w)
    rw [hrs, hreports, List.mem_append, List.mem_append, List.mem_singleton] at hmem
    have hkind := Report.kind_of_names hnames
    rcases hmem with (hmem | rfl) | hmem
    · exact absurd hkind (hold r hmem)
    · rfl
    · exact absurd (hkind.symm.trans (hkinds r hmem)) hdetail

/-- Before the state test, the evaluation reports on modules alone. -/
theorem Link.lossTest_reports_kind {l : Link} {w : Sweep} {r : Report} (h : r ∈ ((l.countSweep w).lossTest).reports) :
    r.kind = .moduleAttention ∨ r.kind = .moduleLost := by
  rcases LinkStep.mem_lossTest_reports h with h | ⟨q, -, rfl⟩ | h
  · obtain ⟨frame, p, -, -, rfl⟩ := Link.mem_countSweep_reports h
    exact .inl rfl
  · exact .inl rfl
  · exact .inr h

/-! ## Counting errors (R5 to R7, R9, R11) -/

/-- R5 to R7: what one good header and one place of it make of a module whose miss count is far from 32. -/
theorem Link.goodHeader_module (l : Link) (w : Sweep) (frame : List Byte) (p : Fin 10)
    (hmiss : l.modules[p].miss < 31) :
    (placeClass w frame p = .good → l.modules[p].state = .present → (l.goodHeader w frame).link.modules[p]
        = { l.modules[p] with
            miss := 0
            attention := sectionAttention (sectionOf frame p), tripped := sectionTripped (sectionOf frame p) })
      ∧ (placeClass w frame p = .good → l.modules[p].state = .mismatch →
          (l.goodHeader w frame).link.modules[p] = { l.modules[p] with miss := 0 })
      ∧ (placeClass w frame p = .missing → l.modules[p].counted = true →
          (l.goodHeader w frame).link.modules[p] = { l.modules[p] with miss := l.modules[p].miss + 1 })
      ∧ (placeClass w frame p = .checkError ∨ l.modules[p].counted = false →
          (l.goodHeader w frame).link.modules[p] = l.modules[p]) := by
  have hget : (l.goodHeader w frame).link.modules[p]
      = l.modules[p].applyPlace (placeClass w frame p) (sectionOf frame p) := by
    rw [Link.goodHeader_frame, getElem_ofFn_fin]
  rw [hget]
  generalize l.modules[p] = m at hmiss
  generalize placeClass w frame p = cls
  have hmissed : m.counted = true → m.missed = { m with miss := m.miss + 1 } := fun h => by
    rw [Module.missed_of_counted h, Nat.min_eq_right (by simp only [Config.missLimit]; omega)]
  refine ⟨fun hcls hstate => ?_, fun hcls hstate => ?_, fun hcls hcounted => ?_, fun h => ?_⟩
  · simp only [Module.applyPlace, hcls, hstate]
  · simp only [Module.applyPlace, hcls, hstate]
  · rw [← hmissed hcounted, hcls]
    cases hstate : m.state with
    | present => simp only [Module.applyPlace, hstate]
    | mismatch => simp only [Module.applyPlace, hstate]
    | unknown => simp [Module.counted, hstate] at hcounted
    | missing => simp [Module.counted, hstate] at hcounted
    | lost => simp [Module.counted, hstate] at hcounted
  · rcases h with hcls | hcounted
    · rw [hcls]
      cases hstate : m.state <;> simp only [Module.applyPlace, hstate]
    · cases hstate : m.state with
      | present => simp [Module.counted, hstate] at hcounted
      | mismatch => simp [Module.counted, hstate] at hcounted
      | unknown => simp only [Module.applyPlace, hstate]
      | missing => simp only [Module.applyPlace, hstate]
      | lost => simp only [Module.applyPlace, hstate]

/-- The calm half of O17: far from every threshold the sweep end keeps what its counter changes made. -/
theorem sweepEnd_of_calm {s : State} {w : Sweep} (hw : s.link.inFlight = some w) (hr : s.link.restarted = false)
    (hstate : s.link.state = .running) (hhealth : s.link.health < 80)
    (hmiss : ∀ p : Fin 10, s.link.modules[p].miss < 31) :
    s.sweepEnd.deliver.link.state = .running
      ∧ s.sweepEnd.deliver.link.health = (s.link.countSweep w).link.health
      ∧ s.sweepEnd.deliver.link.modules = (s.link.countSweep w).link.modules := by
  obtain ⟨zones, hlink⟩ := State.sweepEnd_deliver_link (State.sweepStep_of_inFlight hw hr)
  rw [hlink, Link.beforeDetail_of_calm hstate hhealth hmiss]
  simp [hstate]

/-- The four states and counters that the state test leaves, below 256 (R11). -/
theorem stateTest_outcomes {s : State} {w : Sweep} (hoffers : s.offers = []) (hw : s.link.inFlight = some w)
    (hr : s.link.restarted = false) (hfull : (s.link.countSweep w).link.health < 256) :
    (s.link.state = .running → (s.link.countSweep w).link.health < 128 →
        s.sweepEnd.deliver.link.state = .running
          ∧ s.sweepEnd.deliver.link.health = (s.link.countSweep w).link.health)
      ∧ (s.link.state = .running → 128 ≤ (s.link.countSweep w).link.health →
        s.sweepEnd.deliver.link.state = .degraded
          ∧ s.sweepEnd.deliver.link.health = (s.link.countSweep w).link.health
          ∧ s.sweepEnd.deliver.shows .linkDegraded 0 (byteOf (s.link.countSweep w).link.health))
      ∧ (s.link.state = .running → s.link.health < 96 → 96 ≤ (s.link.countSweep w).link.health →
        (s.link.countSweep w).link.health < 128 →
        s.sweepEnd.deliver.shows .linkWarned 0 (byteOf (s.link.countSweep w).link.health))
      ∧ (s.link.state = .degraded →
        s.sweepEnd.deliver.link.health = (s.link.countSweep w).link.health
          ∧ s.sweepEnd.deliver.link.state
            = if (s.link.countSweep w).link.health ≤ 95 then .running else .degraded) := by
  obtain ⟨zones, hlink⟩ := State.sweepEnd_deliver_link (State.sweepStep_of_inFlight hw hr)
  have hkinds : ∀ r ∈ ((s.link.countSweep w).lossTest).reports, r.kind ≠ .linkDegraded ∧ r.kind ≠ .linkWarned :=
    fun r hmem => by rcases Link.lossTest_reports_kind hmem with h | h <;> rw [h] <;> simp
  generalize hx : (s.link.countSweep w).lossTest = x at hkinds
  have hhealth : x.link.health = (s.link.countSweep w).link.health := by rw [← hx, LinkStep.lossTest_health]
  have hstate : x.link.state = s.link.state := by rw [← hx, LinkStep.lossTest_state, Link.countSweep_state]
  rw [← hhealth] at hfull ⊢
  have hbefore : ∀ y, x.stateTest s.link.health = y → y.link.state ≠ .discovering →
      s.link.beforeDetail s.cell w = y := fun y hy hno => by
    rw [Link.beforeDetail_of_not_discovering (by rw [hx, hy]; exact hno), hx, hy]
  refine ⟨fun hrun hlow => ?_, fun hrun hhigh => ?_, fun hrun hwas hwarn hlow => ?_, fun hdeg => ?_⟩
  · have htest := LinkStep.stateTest_of_running (hstate.trans hrun) hlow s.link.health
    have hrunning : (x.stateTest s.link.health).link.state = .running := by
      rw [htest]
      split <;> exact hstate.trans hrun
    rw [hlink, hbefore _ rfl (by rw [hrunning]; simp)]
    refine ⟨by simpa using hrunning, ?_⟩
    rw [Link.startPeriod_health, LinkStep.detailStep_health, htest]
    split <;> rfl
  · have htest := LinkStep.stateTest_of_degrading (hstate.trans hrun) hhigh hfull s.link.health
    have hy := hbefore _ htest (by simp)
    refine ⟨?_, ?_, ?_⟩
    · rw [hlink, hy, Link.startPeriod_state, LinkStep.detailStep_state]
    · rw [hlink, hy, Link.startPeriod_health, LinkStep.detailStep_health]
    · exact State.sweepEnd_shows_only hoffers hw hr (congrArg LinkStep.reports hy) (fun r hmem => (hkinds r hmem).1)
        (by decide) (by decide)
  · have htest := LinkStep.stateTest_of_running (hstate.trans hrun) hlow s.link.health
    rw [if_pos ⟨hwarn, hwas⟩] at htest
    have hy := hbefore _ htest (by simp [hstate, hrun])
    exact State.sweepEnd_shows_only hoffers hw hr (congrArg LinkStep.reports hy) (fun r hmem => (hkinds r hmem).2)
      (by decide) (by decide)
  · have htest := LinkStep.stateTest_of_degraded (hstate.trans hdeg) hfull s.link.health
    have hno : (x.stateTest s.link.health).link.state ≠ .discovering := by
      rw [htest]
      split
      · simp
      · simp [hstate, hdeg]
    rw [hlink, hbefore _ rfl hno, Link.startPeriod_health, LinkStep.detailStep_health, Link.startPeriod_state,
      LinkStep.detailStep_state, htest]
    by_cases hlow : x.link.health < Config.warnAt
    · rw [if_pos hlow, if_pos (Nat.le_of_lt_succ hlow)]
      exact ⟨rfl, rfl⟩
    · rw [if_neg hlow, if_neg (fun h => hlow (Nat.lt_succ_of_le h))]
      exact ⟨rfl, hstate.trans hdeg⟩

/-- Settles O17: the counter changes by the header, then the tests of R11. -/
theorem sweepEndCountsErrors : Obligations.SweepEndCountsErrors := by
  refine ⟨fun s w hw hr hstate hhealth hmiss => ?_, fun s w hoffers hw hr hfull =>
    ⟨s.sweepEnd.deliver, rfl, stateTest_outcomes hoffers hw hr hfull⟩⟩
  obtain ⟨hrun, hcount, hmods⟩ := sweepEnd_of_calm hw hr hstate hhealth hmiss
  have hgood : ∀ frame, findFrame s.link.received = some frame → headerGood frame w.count = true →
      s.link.countSweep w = s.link.goodHeader w frame := fun frame hfind hgood =>
    Link.countSweep_of_good (goodFrame_of_good hfind hgood)
  have height : min Config.healthMax (s.link.health + 8) = s.link.health + 8 :=
    Nat.min_eq_right (by simp only [Config.healthMax]; omega)
  refine ⟨s.sweepEnd.deliver, rfl, hrun, fun hnone => ?_, fun frame hfind hbad => ?_, fun frame hfind hok => ?_,
    fun frame hfind hok p => ?_⟩
  · rw [hcount, hmods, Link.countSweep_of_bad (goodFrame_of_none hnone w), LinkStep.of, Link.badHeader_frame, hnone]
    refine ⟨height, fun p => ?_⟩
    simp only [Option.isSome_none, Bool.false_eq_true, if_false, getElem_ofFn_fin]
    split
    · next h =>
      rw [Module.missed_of_counted h]
      have := hmiss p
      exact Nat.min_eq_right (by simp only [Config.missLimit]; omega)
    · next h => rw [Module.missed_of_not_counted (by simpa using h)]
  · rw [hcount, hmods, Link.countSweep_of_bad (goodFrame_of_bad hfind hbad), LinkStep.of, Link.badHeader_frame, hfind]
    exact ⟨height, rfl⟩
  · rw [hcount, hgood frame hfind hok, Link.goodHeader_health]
    have := checkErrors_le w frame
    have hcap : min Config.healthMax s.link.health = s.link.health :=
      Nat.min_eq_right (by simp only [Config.healthMax]; omega)
    have hsum : min Config.healthMax (s.link.health + checkErrors w frame) = s.link.health + checkErrors w frame :=
      Nat.min_eq_right (by simp only [Config.healthMax]; omega)
    rw [hcap, hsum]
  · rw [hmods, hgood frame hfind hok]
    exact s.link.goodHeader_module w frame p (hmiss p)

/-! ## The loss of modules (R8, R20) -/

/-- Module `q` was found, is LOST and stands outside the detail-fetch queue. -/
def LinkStep.LostOut (x : LinkStep) (q : Fin 10) : Prop :=
  x.link.modules[q].state = .lost ∧ q ∉ x.link.queue ∧ q.val < x.link.found

theorem LinkStep.goOffline_lostOut {x : LinkStep} {q : Fin 10} (h : x.LostOut q) : x.goOffline.LostOut q := by
  obtain ⟨hlost, -, hfound⟩ := h
  obtain ⟨-, hqueue, -, hfound', hmods, -⟩ := x.goOffline_spec
  refine ⟨?_, by rw [hqueue]; simp, by rw [hfound']; exact hfound⟩
  rw [hmods]
  split
  · rfl
  · exact hlost

theorem LinkStep.stateTest_lostOut {x : LinkStep} {q : Fin 10} (h : x.LostOut q) (before : Nat) :
    (x.stateTest before).LostOut q := by
  rcases x.stateTest_cases before with htest | ⟨st, rs, -, htest⟩
  · rw [htest]
    exact LinkStep.goOffline_lostOut h
  · rw [htest]
    exact h

theorem LinkStep.endDiscovery_lostOut {x : LinkStep} {q : Fin 10} (h : x.LostOut q) (short : Bool) (before : Nat) :
    (x.endDiscovery short before).LostOut q :=
  LinkStep.stateTest_lostOut (x := { x with
    link := { x.link with state := .running, probes := 0, restart := false }
    completion := if x.link.restart then some (if short then linkShort else linkDone) else x.completion }) h before

/-- R15: the probed module identified, before discovery goes on or ends. -/
def LinkStep.identified (x : LinkStep) (m : CellMap) (n : Fin 10) (channels : Byte) : LinkStep :=
  { x with
    link := { x.link with
      modules := x.link.modules.set n { x.link.modules[n] with
        state := if channels.toNat = m.channels[n] then .present else .mismatch, miss := 0 }
      found := n.val + 1
      probes := 0 }
    reports := x.reports
      ++ (if channels.toNat = m.channels[n] then [] else [.cause .moduleMismatch (byteOf n.val) channels]) }

theorem LinkStep.identify_eq (x : LinkStep) (m : CellMap) (n : Fin 10) (channels : Byte) (before : Nat) :
    x.identify m n channels before = if n.val + 1 < m.modules then x.identified m n channels
      else (x.identified m n channels).endDiscovery false before := by
  simp only [LinkStep.identify, LinkStep.identified, decide_eq_true_eq]

/-- R16: the modules left without an answer are MISSING, and DISCOVERY SHORT is reported. -/
def LinkStep.shortened (x : LinkStep) (m : CellMap) : LinkStep :=
  { x with
    link := { x.link with
      modules := Vector.ofFn fun p =>
        if x.link.found ≤ p.val ∧ p.val < m.modules then { x.link.modules[p] with state := .missing }
        else x.link.modules[p] }
    reports := x.reports ++ [.cause .discoveryShort 0 (byteOf x.link.found)] }

theorem LinkStep.unanswered_eq (x : LinkStep) (m : CellMap) (before : Nat) : x.unanswered m before
    = if x.link.probes + 1 < Config.probeLimit then { x with link := { x.link with probes := x.link.probes + 1 } }
      else (x.shortened m).endDiscovery true before := rfl

theorem LinkStep.identify_lostOut {x : LinkStep} {q n : Fin 10} (h : x.LostOut q) (hn : x.link.found = n.val)
    (m : CellMap) (channels : Byte) (before : Nat) : (x.identify m n channels before).LostOut q := by
  obtain ⟨hlost, hout, hfound⟩ := h
  have hne : q ≠ n := fun heq => by
    subst heq
    omega
  have hid : (x.identified m n channels).LostOut q := by
    refine ⟨?_, hout, Nat.lt_succ_of_lt (hn ▸ hfound)⟩
    rw [LinkStep.identified, getElem_set_fin, if_neg hne]
    exact hlost
  rw [LinkStep.identify_eq]
  split
  · exact hid
  · exact LinkStep.endDiscovery_lostOut hid _ _

theorem LinkStep.unanswered_lostOut {x : LinkStep} {q : Fin 10} (h : x.LostOut q) (m : CellMap) (before : Nat) :
    (x.unanswered m before).LostOut q := by
  obtain ⟨hlost, hout, hfound⟩ := h
  have hshort : (x.shortened m).LostOut q := by
    refine ⟨?_, hout, hfound⟩
    have hno : ¬ (x.link.found ≤ q.val ∧ q.val < m.modules) := fun hle => by omega
    rw [LinkStep.shortened, getElem_ofFn_fin, if_neg hno]
    exact hlost
  rw [LinkStep.unanswered_eq]
  split
  · exact ⟨hlost, hout, hfound⟩
  · exact LinkStep.endDiscovery_lostOut hshort _ _

/-- The discovery step sets the modules that were not found before it. -/
theorem LinkStep.discover_lostOut {x : LinkStep} {q : Fin 10} (h : x.LostOut q) (m : CellMap) (w : Sweep)
    (frame? : Option (List Byte)) (before : Nat) : (x.discover m w frame? before).LostOut q := by
  unfold LinkStep.discover
  split
  · exact h
  · split
    · split
      · split
        · exact LinkStep.identify_lostOut h rfl m _ before
        · exact LinkStep.unanswered_lostOut h m before
      · exact h
    · exact h
    · exact h

theorem LinkStep.detailStep_lostOut {x : LinkStep} {q : Fin 10} (h : x.LostOut q) (w : Sweep)
    (frame? : Option (List Byte)) : (x.detailStep w frame?).LostOut q := by
  obtain ⟨hlost, hout, hfound⟩ := h
  obtain ⟨hlink, -, hsub, -⟩ := x.detailStep_frame w frame?
  rw [LinkStep.LostOut, hlink]
  exact ⟨hlost, fun hq => hout (hsub hq), hfound⟩

/-- The reports of the state test's input are reports of the whole evaluation before the detail step. -/
theorem LinkStep.discover_reports_subset (x : LinkStep) (m : CellMap) (w : Sweep) (frame? : Option (List Byte))
    (before : Nat) : x.reports ⊆ (x.discover m w frame? before).reports := by
  unfold LinkStep.discover
  split
  · exact List.Subset.refl _
  · split
    · split
      · split
        · rw [LinkStep.identify_eq]
          split
          · exact fun r hr => List.mem_append_left _ hr
          · exact fun r hr => LinkStep.stateTest_reports_subset _ _ (List.mem_append_left _ hr)
        · rw [LinkStep.unanswered_eq]
          split
          · exact List.Subset.refl _
          · exact fun r hr => LinkStep.stateTest_reports_subset _ _ (List.mem_append_left _ hr)
      · exact List.Subset.refl _
    · exact List.Subset.refl _
    · exact List.Subset.refl _

/-- Settles O20: the loss test takes the modules out, and no later step of the evaluation brings one back. -/
theorem moduleLossBreaksTheChain : Obligations.ModuleLossBreaksTheChain := by
  intro s w p hw hr hbreak hfound
  have hlost := LinkStep.lossTest_of_break hbreak
  obtain ⟨hcounted, -⟩ : (s.link.countSweep w).link.modules[p].counted = true ∧ _ := by
    have := List.find?_some hbreak
    simpa [-Fin.getElem_fin] using this
  have hcause : .cause .moduleLost (byteOf p.val) (byteOf p.val) ∈ ((s.link.countSweep w).lossTest).reports := by
    rw [hlost]
    refine List.mem_append_right _ (List.mem_map.mpr ⟨p, List.mem_filter.mpr ⟨List.mem_finRange p, ?_⟩, rfl⟩)
    simp [Link.lostAt, hfound, hcounted, -Fin.getElem_fin]
  have hdue : s.lossDue p = true := by
    rw [State.lossDue, List.contains_iff_mem]
    exact State.mem_sweepStep_reports hw hr (LinkStep.discover_reports_subset _ _ _ _ _
      (LinkStep.stateTest_reports_subset _ _ hcause))
  obtain ⟨zones, hlink⟩ := State.sweepEnd_deliver_link (State.sweepStep_of_inFlight hw hr)
  refine ⟨s.sweepEnd.deliver, State.sweepWhen_done hdue, rfl, fun q hpq hq hqc => ?_⟩
  have hgone : (s.link.countSweep w).link.lostAt p q = true := by
    have hqc' : (s.link.countSweep w).link.modules[q].counted = true :=
      (Module.counted_congr (s.link.countSweep_module w q).1).trans hqc
    simp [Link.lostAt, hpq, hq, hqc', -Fin.getElem_fin]
  have hout : ((s.link.countSweep w).lossTest).LostOut q := by
    rw [hlost]
    refine ⟨?_, ?_, ?_⟩
    · rw [getElem_ofFn_fin, if_pos hgone]
      rfl
    · simp [hgone]
    · simpa using hq
  obtain ⟨hstate, hqueue, -⟩ := LinkStep.detailStep_lostOut (LinkStep.discover_lostOut
    (LinkStep.stateTest_lostOut hout s.link.health) s.cell w (goodFrame s.link w) s.link.health) w (goodFrame s.link w)
  rw [hlink, Link.startPeriod_modules, Link.startPeriod_queue]
  exact ⟨hstate, hqueue⟩

/-! ## The full health counter (R12, R13) -/

/-- Settles O21: the state test takes the link OFFLINE, and nothing is left to discover or to fetch. -/
theorem fullHealthCounterTakesTheLinkOffline : Obligations.FullHealthCounterTakesTheLinkOffline := by
  intro s w hw hr hframes hfull
  obtain ⟨hstate, hqueue, hrestart, -, hmods, hcause⟩ := ((s.link.countSweep w).lossTest).goOffline_spec
  have htest := LinkStep.stateTest_of_full (x := (s.link.countSweep w).lossTest)
    ⟨by simpa using hframes, by rw [LinkStep.lossTest_health]; exact hfull⟩ s.link.health
  have hbefore : s.link.beforeDetail s.cell w = ((s.link.countSweep w).lossTest).goOffline := by
    rw [Link.beforeDetail_of_not_discovering (by rw [htest, hstate]; simp), htest]
  obtain ⟨zones, hlink⟩ := State.sweepEnd_deliver_link (State.sweepStep_of_inFlight hw hr)
  have hdue : s.offlineDue = true := by
    rw [State.offlineDue, List.contains_iff_mem]
    exact State.mem_sweepStep_reports hw hr (by rw [hbefore]; exact hcause)
  obtain ⟨hframe, -, hsub, -⟩ := ((s.link.countSweep w).lossTest).goOffline.detailStep_frame w (goodFrame s.link w)
  have hempty : (((s.link.countSweep w).lossTest).goOffline.detailStep w (goodFrame s.link w)).link.queue = [] :=
    List.eq_nil_of_subset_nil (hqueue ▸ hsub)
  rw [hbefore] at hlink
  refine ⟨s.sweepEnd.deliver, State.sweepWhen_done hdue, rfl, ?_, ?_, ?_, ?_, ?_, fun p => ?_⟩
  · rw [hlink, Link.startPeriod_state, LinkStep.detailStep_state, hstate]
  · rw [hlink, Link.startPeriod_queue, hempty]
  · rw [hlink, Link.startPeriod_restart, hframe]
    exact hrestart
  · rw [hlink, Link.startPeriod_state, LinkStep.detailStep_state, hstate]
    rfl
  · rw [hlink, (Link.startPeriod_of_not_frames ?_ zones).2]
    rw [LinkStep.detailStep_state, hstate]
    simp [LinkState.frames]
  · rw [hlink, Link.startPeriod_modules, LinkStep.detailStep_modules, hmods]
    split
    · exact Module.counted_lose _
    · next h => simpa using h

end Sys2Proof.Machine
end

section
/-! Discovery and the detail fetch at a sweep end (R14 to R20): how a probe and a ride end, and the completion that a
RESTART LINK hands over. -/

namespace Sys2Proof.Machine

/-! ## Completions on a channel (R178) -/

/-- R178: a stamp is placed when its completion is known and its command has reached memory, and once. -/
theorem State.placeStamp_cases (s : State) (c : Fin 10) : s.placeStamp c = s
    ∨ ∃ (w : Stamp) (code : Byte), s.placeStamp c = (s.setChan c { s.chans[c] with placed := true }).inject
        ⟨w.addr, wordOf w.code w.tag w.argument code, .stamp c⟩ := by
  simp only [State.placeStamp]
  split
  · next w code _ _ =>
    split
    · exact .inr ⟨w, code, rfl⟩
    · exact .inl rfl
  · exact .inl rfl

/-- Placing a stamp marks its channel's record and changes nothing else of any record. -/
theorem State.placeStamp_chan (s : State) (c k : Fin 10) :
    ∃ placed, (s.placeStamp c).chans[k] = { s.chans[k] with placed := placed } := by
  rcases s.placeStamp_cases c with h | ⟨w, code, h⟩
  · exact ⟨s.chans[k].placed, by rw [h]⟩
  · refine ⟨if k = c then true else s.chans[k].placed, ?_⟩
    rw [h, State.inject, State.setPass_chans, State.setChan_chans, getElem_set_fin]
    split
    · next hk => rw [hk]
    · rfl

theorem State.finish_of_running {s : State} {c : Fin 10} (h : s.chans[c].phase = .running) (code : Byte) :
    s.finish c code = s.setChan c { s.chans[c] with phase := .stamping, completion := some code } := by
  rw [State.finish, if_pos h]

/-- R178: a completion handed over on a running channel. -/
theorem State.complete_chan_of_running {s : State} {c : Fin 10} (h : s.chans[c].phase = .running) (code : Byte) :
    ∃ placed, (s.complete c code).chans[c] = { s.chans[c] with
      phase := .stamping, completion := some code, placed := placed } := by
  obtain ⟨placed, hplaced⟩ := (s.finish c code).placeStamp_chan c c
  refine ⟨placed, ?_⟩
  rw [State.complete, hplaced, State.finish_of_running h, State.setChan_chans, getElem_set_self_fin]

theorem State.takeLink_of_completion {x : LinkStep} {code : Byte} (h : x.completion = some code) (s : State) :
    s.takeLink x = ((s.setLink x.link).report x.reports).complete linkChannel code := by
  rw [State.takeLink, h]

theorem State.takeLink_of_no_completion {x : LinkStep} (h : x.completion = none) (s : State) :
    s.takeLink x = (s.setLink x.link).report x.reports := by
  rw [State.takeLink, h]

/-! ## Discovery (R15 to R17) -/

/-- Below 96, a probe's sweep end is its discovery step on what the loss test left. -/
theorem sweepStep_of_probe {s : State} {w : Sweep} {k : Nat} (hw : s.link.inFlight = some w)
    (hr : s.link.restarted = false) (hstate : s.link.state = .discovering) (hslot : w.slot = .discover k)
    (hhealth : (s.link.countSweep w).link.health < 96) :
    s.sweepStep = ((s.link.countSweep w).lossTest).discover s.cell w (goodFrame s.link w) s.link.health := by
  have hdisc : ((s.link.countSweep w).lossTest).link.state = .discovering := by simp [hstate]
  have hlow : ((s.link.countSweep w).lossTest).link.health < Config.healthMax := by
    rw [LinkStep.lossTest_health]
    exact hhealth.trans (by decide)
  rw [State.sweepStep_of_inFlight hw hr, LinkStep.detailStep_of_discover hslot, Link.beforeDetail,
    LinkStep.stateTest_of_discovering hdisc hlow]

/-- R17: the end of a discovery whose health counter is below 96. -/
theorem LinkStep.endDiscovery_of_healthy {x : LinkStep} (h : x.link.health < 96) (short : Bool) (before : Nat) :
    x.endDiscovery short before = { x with
      link := { x.link with state := .running, probes := 0, restart := false }
      completion := if x.link.restart then some (if short then linkShort else linkDone) else x.completion } :=
  LinkStep.stateTest_of_healthy (x := { x with
    link := { x.link with state := .running, probes := 0, restart := false }
    completion := if x.link.restart then some (if short then linkShort else linkDone) else x.completion }) rfl h before

/-- The first half of O22: the fourth probe sweep without an answer. -/
theorem fourthProbe_endsShort {s : State} {w : Sweep} {k : Nat} {n : Fin 10} (hw : s.link.inFlight = some w)
    (hr : s.link.restarted = false) (hstate : s.link.state = .discovering) (hslot : w.slot = .discover k)
    (hn : s.link.found = n.val) (hprobes : s.link.probes = 3)
    (hanswer : identityAnswer w (goodFrame s.link w) n = none) (hhealth : (s.link.countSweep w).link.health < 96) :
    ∃ t, exec .discoveryShort s = .next t ∧ exec .sweepEnd s = .next t
      ∧ t.link.state = .running ∧ t.link.probes = 0 ∧ t.link.found = s.link.found ∧ t.link.restart = false
      ∧ ∀ p : Fin 10, s.link.found ≤ p.val → p.val < s.cell.modules → t.link.modules[p].state = .missing := by
  have hstep := sweepStep_of_probe hw hr hstate hslot hhealth
  have hlast : ¬ ((s.link.countSweep w).lossTest).link.probes + 1 < Config.probeLimit := by
    simp only [LinkStep.lossTest_probes, Link.countSweep_probes, hprobes]
    decide
  have hlow : (((s.link.countSweep w).lossTest).shortened s.cell).link.health < 96 := by
    simpa [LinkStep.shortened] using hhealth
  rw [LinkStep.discover_of_silence (by simpa using hstate) hslot (by simpa using hn) hanswer, LinkStep.unanswered_eq,
    if_neg hlast, LinkStep.endDiscovery_of_healthy hlow] at hstep
  obtain ⟨zones, hlink⟩ := State.sweepEnd_deliver_link hstep
  have hdue : s.shortDue = true := by
    rw [State.shortDue, hstep]
    simp [LinkStep.shortened, Report.isShort]
  refine ⟨s.sweepEnd.deliver, State.sweepWhen_done hdue, rfl, ?_⟩
  rw [hlink, Link.startPeriod_state, Link.startPeriod_probes, Link.startPeriod_found, Link.startPeriod_restart,
    Link.startPeriod_modules]
  refine ⟨rfl, rfl, by simp [LinkStep.shortened], rfl, fun p hfound hmodules => ?_⟩
  have hmiss : ((s.link.countSweep w).lossTest).link.found ≤ p.val ∧ p.val < s.cell.modules := by
    simpa using ⟨hfound, hmodules⟩
  simp only [LinkStep.shortened, getElem_ofFn_fin, if_pos hmiss]

/-- The link after the identity answer of module `n`: found, its answer weighed against the map (R15). -/
theorem LinkStep.identified_spec (x : LinkStep) (m : CellMap) (n : Fin 10) (channels : Byte) :
    (x.identified m n channels).link.found = n.val + 1 ∧ (x.identified m n channels).link.probes = 0
      ∧ (x.identified m n channels).link.modules[n].miss = 0
      ∧ (x.identified m n channels).link.modules[n].state
        = (if channels.toNat = m.channels[n] then .present else .mismatch) := by
  refine ⟨rfl, rfl, ?_, ?_⟩
  · rw [LinkStep.identified, getElem_set_self_fin]
  · rw [LinkStep.identified, getElem_set_self_fin]

/-- R15: the identity keeps the link's state, its pending RESTART LINK and its counter; the sweep completes nothing. -/
theorem identified_keeps (l : Link) (w : Sweep) (m : CellMap) (n : Fin 10) (channels : Byte) :
    (((l.countSweep w).lossTest).identified m n channels).link.state = l.state
      ∧ (((l.countSweep w).lossTest).identified m n channels).link.restart = l.restart
      ∧ (((l.countSweep w).lossTest).identified m n channels).link.health = (l.countSweep w).link.health
      ∧ (((l.countSweep w).lossTest).identified m n channels).completion = none :=
  ⟨by simp [LinkStep.identified], by simp [LinkStep.identified], by simp [LinkStep.identified],
    ((l.countSweep w).lossTest_frame.2).trans (l.countSweep_frame w).2⟩

/-- The second half of O22, at the probed position `n`. -/
theorem identityAnswer_findsTheModule {s : State} {w : Sweep} {k : Nat} {n : Fin 10} {channels : Byte}
    (hw : s.link.inFlight = some w) (hr : s.link.restarted = false) (hstate : s.link.state = .discovering)
    (hslot : w.slot = .discover k) (hn : s.link.found = n.val)
    (hanswer : identityAnswer w (goodFrame s.link w) n = some channels)
    (hhealth : (s.link.countSweep w).link.health < 96) :
    ∃ t, exec .sweepEnd s = .next t ∧ t.link.found = n.val + 1 ∧ t.link.probes = 0 ∧ t.link.modules[n].miss = 0
      ∧ t.link.modules[n].state = (if channels.toNat = s.cell.channels[n] then .present else .mismatch)
      ∧ (channels.toNat ≠ s.cell.channels[n] → s.offers = [] → t.shows .moduleMismatch (byteOf n.val) channels)
      ∧ (n.val + 1 < s.cell.modules → t.link.state = .discovering ∧ t.link.restart = s.link.restart)
      ∧ (¬ n.val + 1 < s.cell.modules → t.link.state = .running ∧ t.link.restart = false
          ∧ (s.link.restart = true → s.chans[linkChannel].phase = .running →
              t.chans[linkChannel].phase = .stamping ∧ t.chans[linkChannel].completion = some 0x02)) := by
  have hstep := sweepStep_of_probe hw hr hstate hslot hhealth
  rw [LinkStep.discover_of_answer (by simpa using hstate) hslot (by simpa using hn) hanswer,
    LinkStep.identify_eq] at hstep
  have hreports : (((s.link.countSweep w).lossTest).identified s.cell n channels).reports
      = ((s.link.countSweep w).lossTest).reports
        ++ if channels.toNat = s.cell.channels[n] then [] else [.cause .moduleMismatch (byteOf n.val) channels] := rfl
  obtain ⟨hfound, hprobes, hmiss, hmod⟩ := ((s.link.countSweep w).lossTest).identified_spec s.cell n channels
  obtain ⟨hkeeps, hrestart, hcounter, -⟩ := identified_keeps s.link w s.cell n channels
  revert hstep hreports hfound hprobes hmiss hmod hkeeps hrestart hcounter
  generalize ((s.link.countSweep w).lossTest).identified s.cell n channels = y
  intro hstep hreports hfound hprobes hmiss hmod hkeeps hrestart hcounter
  rw [LinkStep.endDiscovery_of_healthy (by rw [hcounter]; exact hhealth)] at hstep
  obtain ⟨zones, hlink⟩ := State.sweepEnd_deliver_link hstep
  refine ⟨s.sweepEnd.deliver, rfl, ?_, ?_, ?_, ?_, fun hwrong hoffers => ?_, fun hmore => ?_, fun hlast => ?_⟩
  · rw [hlink, Link.startPeriod_found]
    split <;> exact hfound
  · rw [hlink, Link.startPeriod_probes]
    split
    · exact hprobes
    · rfl
  · rw [hlink, Link.startPeriod_modules]
    split <;> exact hmiss
  · rw [hlink, Link.startPeriod_modules]
    split <;> exact hmod
  · rw [if_neg hwrong] at hreports
    have hsame : s.sweepStep.reports
        = ((s.link.countSweep w).lossTest).reports ++ [.cause .moduleMismatch (byteOf n.val) channels] := by
      rw [hstep, ← hreports]
      split <;> rfl
    refine State.sweepEnd_shows hoffers (by decide) ⟨.cause .moduleMismatch (byteOf n.val) channels, ?_, rfl, rfl⟩ ?_
    · rw [hsame]
      exact List.mem_append_right _ (List.mem_singleton.mpr rfl)
    · intro r hmem hnames
      rw [hsame, List.mem_append, List.mem_singleton] at hmem
      rcases hmem with hmem | rfl
      · rcases Link.lossTest_reports_kind hmem with h | h <;> simp [Report.kind_of_names hnames] at h
      · rfl
  · rw [hlink, Link.startPeriod_state, Link.startPeriod_restart, if_pos hmore]
    exact ⟨hkeeps.trans hstate, hrestart⟩
  · rw [if_neg hlast] at hstep hlink
    rw [hlink, Link.startPeriod_state, Link.startPeriod_restart]
    refine ⟨rfl, rfl, fun hpending hrunning => ?_⟩
    have hdone : s.sweepStep.completion = some 0x02 := by
      rw [hstep]
      simp only [hrestart.trans hpending, if_true]
      rfl
    obtain ⟨placed, hchan⟩ := State.complete_chan_of_running
      (s := (s.setLink s.sweepStep.link).report s.sweepStep.reports) hrunning 0x02
    rw [State.deliver_chans, State.sweepEnd_chans, State.takeLink_of_completion hdone, hchan]
    exact ⟨rfl, rfl⟩

/-- Settles O22, at the position that the sweep probed. -/
theorem fourthUnansweredProbeEndsDiscovery : Obligations.FourthUnansweredProbeEndsDiscovery :=
  ⟨fun _ _ _ h hw hr hstate hslot hprobes hanswer hhealth =>
    fourthProbe_endsShort (n := ⟨_, h⟩) hw hr hstate hslot rfl hprobes hanswer hhealth,
  fun _ _ _ h _ hw hr hstate hslot hanswer hhealth =>
    identityAnswer_findsTheModule (n := ⟨_, h⟩) hw hr hstate hslot rfl hanswer hhealth⟩

/-! ## The detail fetch (R18 to R20, R134) -/

/-- While module `p` stands in the queue, no report of the evaluation is of its MODULE ATTENTION. -/
def LinkStep.SilentOn (x : LinkStep) (p : Fin 10) : Prop :=
  p ∈ x.link.queue → ∀ r ∈ x.reports, ¬ r.names .moduleAttention (byteOf p.val)

theorem position_of_byteOf {q p : Fin 10} (h : byteOf q.val = byteOf p.val) : q = p :=
  Fin.ext (byteOf_injective (by omega) (by omega) h)

theorem Report.resolution_names {q p : Fin 10} {y : Byte}
    (h : (Report.resolution q y).names .moduleAttention (byteOf p.val)) : q = p :=
  position_of_byteOf h.2

/-- R18: the module whose detail the sweep carries does not join the queue with this sweep. -/
theorem Link.countSweep_silentOn {l : Link} {w : Sweep} {p : Fin 10} {code : Byte} (hslot : w.slot = .detail p)
    (hanswer : detailAnswer w (goodFrame l w) p = some code) : (l.countSweep w).SilentOn p := by
  intro _ r hmem hnames
  obtain ⟨frame, q, hframe, hattends, rfl⟩ := Link.mem_countSweep_reports hmem
  have hqp : q = p := position_of_byteOf hnames.2
  subst hqp
  have hcarries : carriesDetail w q (sectionOf frame q) = true := by
    rw [hframe, detailAnswer] at hanswer
    split at hanswer
    · next h => simp [carriesDetail, hslot, h.2]
    · cases hanswer
  simp [attends, hcarries] at hattends

theorem LinkStep.lossTest_silentOn {x : LinkStep} {p : Fin 10} (h : x.SilentOn p) : x.lossTest.SilentOn p := by
  intro hqueue r hmem hnames
  rcases LinkStep.mem_lossTest_reports hmem with hold | ⟨q, hout, rfl⟩ | hkind
  · exact h (x.lossTest_queue_subset hqueue) r hold hnames
  · exact hout (Report.resolution_names hnames ▸ hqueue)
  · simp [Report.kind_of_names hnames] at hkind

theorem LinkStep.stateTest_silentOn {x : LinkStep} {p : Fin 10} (h : x.SilentOn p) (before : Nat) :
    (x.stateTest before).SilentOn p := by
  intro hqueue r hmem hnames
  rcases x.stateTest_cases before with htest | ⟨st, rs, hkinds, htest⟩
  · rw [htest, x.goOffline_spec.2.1] at hqueue
    cases hqueue
  · rw [htest] at hqueue hmem
    rcases List.mem_append.mp hmem with hold | hnew
    · exact h hqueue r hold hnames
    · rcases hkinds r hnew with hkind | hkind <;> simp [Report.kind_of_names hnames] at hkind

/-- The first part of O23: the thirtieth ride without an answer. -/
theorem thirtiethRide_dropsTheHead {s : State} {w : Sweep} {p : Fin 10} {rest : List (Fin 10)}
    (hw : s.link.inFlight = some w) (hr : s.link.restarted = false) (hslot : w.slot = .detail p)
    (hqueue : (s.link.beforeDetail s.cell w).link.queue = p :: rest)
    (hanswer : detailAnswer w (goodFrame s.link w) p = none)
    (hride : 29 ≤ (s.link.beforeDetail s.cell w).link.ride) :
    ∃ t, exec .detailRideLimit s = .next t ∧ exec .sweepEnd s = .next t ∧ t.link.queue = rest ∧ t.link.ride = 0 := by
  have hlimit : Config.rideLimit ≤ (s.link.beforeDetail s.cell w).link.ride + 1 := by
    simp only [Config.rideLimit]
    omega
  obtain ⟨zones, hlink⟩ := State.sweepEnd_deliver_link
    ((State.sweepStep_of_inFlight hw hr).trans (LinkStep.detailStep_of_limit hslot hqueue hanswer hlimit))
  have hdue : s.rideDue = true := by
    simp only [State.rideDue, hw, hslot]
    simp [hr, hqueue, hanswer, hlimit]
  refine ⟨s.sweepEnd.deliver, State.sweepWhen_done hdue, rfl, ?_⟩
  rw [hlink, Link.startPeriod_queue, Link.startPeriod_ride]
  exact ⟨rfl, rfl⟩

/-- The second part of O23: the detail code of the head. -/
theorem detailCode_takesTheHeadOut {s : State} {w : Sweep} {p : Fin 10} {rest : List (Fin 10)} {code : Byte}
    (hoffers : s.offers = []) (hw : s.link.inFlight = some w) (hr : s.link.restarted = false)
    (hslot : w.slot = .detail p) (hqueue : (s.link.beforeDetail s.cell w).link.queue = p :: rest)
    (hanswer : detailAnswer w (goodFrame s.link w) p = some code) :
    ∃ t, exec .sweepEnd s = .next t ∧ t.link.queue = rest ∧ t.link.ride = 0
      ∧ t.shows .moduleAttention (byteOf p.val) code := by
  have hstep := (State.sweepStep_of_inFlight hw hr).trans (LinkStep.detailStep_of_answer hslot hqueue hanswer)
  obtain ⟨zones, hlink⟩ := State.sweepEnd_deliver_link hstep
  have hsilent : (s.link.beforeDetail s.cell w).SilentOn p := by
    rw [Link.beforeDetail, LinkStep.discover_of_detail hslot]
    exact LinkStep.stateTest_silentOn (LinkStep.lossTest_silentOn (Link.countSweep_silentOn hslot hanswer)) _
  have hreports : s.sweepStep.reports = (s.link.beforeDetail s.cell w).reports ++ [.resolution p code] := by rw [hstep]
  refine ⟨s.sweepEnd.deliver, rfl, ?_, ?_, State.sweepEnd_shows hoffers (by decide)
    ⟨.resolution p code, ?_, rfl, rfl⟩ fun r hmem hnames => ?_⟩
  · rw [hlink, Link.startPeriod_queue]
  · rw [hlink, Link.startPeriod_ride]
  · rw [hreports]
    exact List.mem_append_right _ (List.mem_singleton.mpr rfl)
  · rw [hreports, List.mem_append, List.mem_singleton] at hmem
    rcases hmem with hmem | rfl
    · exact absurd hnames (hsilent (by rw [hqueue]; exact List.mem_cons_self) r hmem)
    · rfl

/-- R18: the modules that join the queue at a sweep whose slot carries no command. -/
theorem attends_of_no_command {l : Link} {w : Sweep} (hslot : w.slot = .none) (frame : List Byte) (p : Fin 10) :
    attends l w frame p = decide (l.modules[p].state = .present ∧ placeClass w frame p = .good
      ∧ sectionAttention (sectionOf frame p) = true ∧ p ∉ l.queue) := by
  rw [Bool.eq_iff_iff]
  simp [attends, carriesDetail, hslot, and_assoc, -Fin.getElem_fin]

/-- The third part of O23: the modules that join. -/
theorem attention_joinsTheQueue {s : State} {w : Sweep} {frame : List Byte} (hoffers : s.offers = [])
    (hw : s.link.inFlight = some w) (hr : s.link.restarted = false) (hstate : s.link.state = .running)
    (hslot : w.slot = .none) (hframe : goodFrame s.link w = some frame) (hhealth : s.link.health < 80)
    (hmiss : ∀ p : Fin 10, s.link.modules[p].miss < 31) :
    ∃ t, exec .sweepEnd s = .next t
      ∧ t.link.queue = s.link.queue ++ (List.finRange 10).filter (attends s.link w frame)
      ∧ ∀ p ∈ (List.finRange 10).filter (attends s.link w frame), t.shows .moduleAttention (byteOf p.val) 0 := by
  have hstep : s.sweepStep = s.link.goodHeader w frame := by
    rw [State.sweepStep_of_inFlight hw hr, LinkStep.detailStep_of_none hslot,
      Link.beforeDetail_of_calm hstate hhealth hmiss, Link.countSweep_of_good hframe]
  obtain ⟨zones, hlink⟩ := State.sweepEnd_deliver_link hstep
  refine ⟨s.sweepEnd.deliver, rfl, ?_, fun p hp => State.sweepEnd_shows hoffers (by decide)
    ⟨.cause .moduleAttention (byteOf p.val) 0, ?_, rfl, rfl⟩ fun r hmem _ => ?_⟩
  · rw [hlink, Link.startPeriod_queue, Link.goodHeader_frame]
  · rw [hstep]
    exact List.mem_map_of_mem hp
  · rw [hstep] at hmem
    obtain ⟨q, -, rfl⟩ := List.mem_map.mp hmem
    rfl

/-- Settles O23, by what the detail step finds, and by the modules that the counter changes queue. -/
theorem rideLimitDropsTheHead : Obligations.RideLimitDropsTheHead := by
  refine ⟨fun _ _ _ _ => thirtiethRide_dropsTheHead, fun _ _ _ _ _ => detailCode_takesTheHeadOut,
    fun s w frame hoffers hw hr hstate hslot hframe hhealth hmiss => ?_⟩
  have hjoin := attention_joinsTheQueue hoffers hw hr hstate hslot hframe hhealth hmiss
  rw [funext (attends_of_no_command (l := s.link) hslot frame)] at hjoin
  exact hjoin

end Sys2Proof.Machine
end

section
/-! How a host access on a free port ends (R143, R145, R155): an access that ends at its taking, with the effect its
owner gave it; a write that passes to memory; and the classification of the windows. -/

namespace Sys2Proof.Machine

/-! ## The classification (R145) -/

/-- An access outside the map page is not held by a fetch (R148). -/
theorem State.fetchHolds_of_region {s : State} {a : Access} (h : ∀ o, s.region a.addr ≠ .mapPage o) :
    s.fetchHolds a = false := by
  have hbelow : ¬ Config.mapPage ≤ wordBase a.addr := fun hge => h _ (by rw [State.region]; exact if_pos hge)
  simp [State.fetchHolds, hbelow]

theorem State.fetchHolds_of_idle {s : State} (h : s.fetchRuns = false) (a : Access) : s.fetchHolds a = false := by
  rw [State.fetchHolds, h]
  rfl

theorem zoneAt?_word (z : Fin 40) : zoneAt? (4 * z.val) = some z := by
  have hdiv : 4 * z.val / 4 = z.val := Nat.mul_div_cancel_left _ (by decide)
  rw [zoneAt?, dif_pos (by rw [hdiv]; exact z.isLt)]
  exact congrArg some (Fin.ext hdiv)

theorem zoneAt?_of_le {o : Nat} (h : 0xA0 ≤ o) : zoneAt? o = none := dif_neg (by omega)

theorem platenAt?_word (p : Fin 5) : platenAt? (0x100 + 4 * p.val) = some p := by
  have hdiv : (0x100 + 4 * p.val - 0x100) / 4 = p.val := by omega
  rw [platenAt?, dif_pos ⟨by omega, by rw [hdiv]; exact p.isLt⟩]
  exact congrArg some (Fin.ext hdiv)

theorem platenAt?_of_not {o : Nat} (h : ¬ (0x100 ≤ o ∧ o < 0x114)) : platenAt? o = none := dif_neg (by omega)

theorem channelAt?_word (c : Fin 10) : channelAt? (4 * c.val) = some c := by
  have hdiv : 4 * c.val / 4 = c.val := Nat.mul_div_cancel_left _ (by decide)
  rw [channelAt?, dif_pos (by rw [hdiv]; exact c.isLt)]
  exact congrArg some (Fin.ext hdiv)

theorem channelAt?_of_le {o : Nat} (h : 0x28 ≤ o) : channelAt? o = none := dif_neg (by omega)

/-! ## Accesses that end at their taking -/

/-- On a free port an access is taken, disposed of and offered to the arbiter, with none behind it. -/
theorem State.hostAccess_of_classify {s u : State} {a : Access} {d : Disposition} (hfree : s.portFree = true)
    (hfetch : s.fetchHolds a = false) (hclass : s.classify a = (d, u)) :
    s.hostAccess a = (u.dispose a d).arbitrate.present [] := by
  obtain ⟨hport, hup, hoffers⟩ := s.portFree_iff.mp hfree
  rw [hostAccess_idle a (by simp [State.portIdle, hport]) hup hoffers, State.takeAccess, hfetch, hclass]
  rfl

theorem State.present_nil {s : State} (h : s.pass.upcoming = []) : s.present [] = s := by
  rw [State.present, ← h]
  rfl

/-- An access that ends at its taking leaves the state that its owner made, with its reply. -/
theorem State.hostAccess_ended {s u : State} {a : Access} {d : Disposition} {r : Reply} (hfree : s.portFree = true)
    (hfetch : s.fetchHolds a = false) (hclass : s.classify a = (d, u)) (hends : u.dispose a d = u.setPort .idle r)
    (hport : u.pass.port = .idle) (hup : u.pass.upcoming = []) (hoffers : u.offers = []) :
    (s.hostAccess a).done = .next { u with pass := { u.pass with reply := r } } := by
  have harb : (u.setPort .idle r).arbitrate = u.setPort .idle r := rfl
  rw [State.hostAccess_of_classify hfree hfetch hclass, hends, harb, State.present_nil (s := u.setPort .idle r) hup,
    State.done_of_offers_nil (s := u.setPort .idle r) hoffers, State.setPort_idle hport]

/-- A write that its owner takes with no memory cycle. -/
theorem State.hostAccess_taken {s u : State} {a : Access} (hfree : s.portFree = true) (hfetch : s.fetchHolds a = false)
    (hclass : s.classify a = (.suppressed, u)) (hpass : u.pass = s.pass) (hoffers : u.offers = s.offers) :
    (s.hostAccess a).done = .next { u with pass := { s.pass with reply := .wrote } } := by
  obtain ⟨hport, hup, hno⟩ := s.portFree_iff.mp hfree
  rw [← hpass]
  exact State.hostAccess_ended hfree hfetch hclass rfl (hpass ▸ hport) (hpass ▸ hup) (hoffers.trans hno)

/-- An access held back with one cause: the cause is offered, and nothing else changes. -/
theorem State.hostAccess_raises {s : State} {a : Access} {k : CauseKind} {source detail : Byte}
    (hfree : s.portFree = true) (hfetch : s.fetchHolds a = false)
    (hclass : s.classify a = (.suppressed, s.raise k source detail)) :
    (s.hostAccess a).done
      = .next { s with pass := { s.pass with reply := .wrote }, att := s.att.offer k source detail } := by
  obtain ⟨hport, hup, hno⟩ := s.portFree_iff.mp hfree
  have harb : ((s.raise k source detail).setPort .idle .wrote).arbitrate
      = (s.raise k source detail).setPort .idle .wrote := rfl
  have hone : ((s.raise k source detail).setPort .idle .wrote).offers = [.cause k source detail] := by
    simp [State.setPort, State.raise, hno]
  rw [State.hostAccess_of_classify hfree hfetch hclass, State.dispose, harb,
    State.present_nil (s := (s.raise k source detail).setPort .idle .wrote) hup, State.done,
        State.deliver_single hone, State.setPort_idle (s := s.raise k source detail) hport]
  exact congrArg Host.Outcome.next (by rw [← hno]; rfl)

/-! ## Writes that pass to memory -/

/-- The delivery of the reports does not touch the passage and memory, and does not read them. -/
theorem State.deliver_of_passage (s : State) (m : Memory) (p : Passage) :
    ((s.setMem m).setPass p).deliver = (s.deliver.setMem m).setPass p := by
  cases hoffers : s.offers with
  | nil =>
    rw [State.deliver_nil hoffers, State.deliver_nil (by rw [State.setPass_offers, State.setMem_offers, hoffers])]
  | cons r rs =>
    cases rs with
    | nil =>
      rw [State.deliver_single hoffers,
        State.deliver_single (r := r) (by rw [State.setPass_offers, State.setMem_offers, hoffers])]
      rfl
    | cons r' rs =>
      simp only [State.deliver, State.setPass_offers, State.setMem_offers, hoffers]
      rfl

/-- A write that claims the port, with no access behind it: the owner's state with its reports delivered, but for the
host port and memory; the injection queue stays as the owner left it (R143, R155). -/
theorem State.claimedWrite_delivers {u : State} (hup : u.pass.upcoming = []) (addr : Addr) (enables : Enables)
    (data : Word) :
    ∃ t, ((u.setPort (.claiming ⟨⟨addr, enables, some data⟩, none⟩) .none).arbitrate.present []).done = .next t
      ∧ t = { u.deliver with pass := t.pass, mem := t.mem } ∧ t.wordPassed u addr enables data ∧ t.queueKept u := by
  rw [State.arbitrate_claimedWrite u _ data rfl]
  cases hgrant : u.hostGranted with
  | true =>
    have hstate : (u.setMem (writeWord u.mem (wordBase addr) enables data)).setPort .idle .wrote
        = (u.setMem (writeWord u.mem (wordBase addr) enables data)).setPass
          { u.pass with port := .idle, reply := .wrote } := rfl
    have hpresent := State.present_nil
      (s := (u.setMem (writeWord u.mem (wordBase addr) enables data)).setPort .idle .wrote) hup
    refine ⟨_, rfl, ?_⟩
    simp only [if_true]
    rw [hpresent, hstate, State.deliver_of_passage]
    exact ⟨rfl, ⟨.inl ⟨rfl, rfl, rfl⟩, rfl⟩, rfl, rfl⟩
  | false =>
    have hfull := starvation_le_of_not_hostGranted hgrant
    have hstate : u.setPort (.claiming ⟨⟨addr, enables, some data⟩, none⟩) .none
        = (u.setMem u.mem).setPass
          { u.pass with port := .claiming ⟨⟨addr, enables, some data⟩, none⟩, reply := .none } := rfl
    have hpresent := State.present_nil (s := u.setPort (.claiming ⟨⟨addr, enables, some data⟩, none⟩) .none) hup
    refine ⟨_, rfl, ?_⟩
    simp only [Bool.false_eq_true, if_false]
    rw [hpresent, hstate, State.deliver_of_passage]
    exact ⟨rfl, ⟨.inr ⟨hfull, rfl, none, rfl⟩, rfl⟩, rfl, rfl⟩

/-- A write that its owner takes and that passes to memory. -/
theorem State.hostAccess_passes {s u : State} {a : Access} {addr : Addr} {enables : Enables} {data : Word}
    (hfree : s.portFree = true) (hfetch : s.fetchHolds a = false)
    (hclass : s.classify a = (.passed ⟨⟨addr, enables, some data⟩, none⟩, u)) (hup : u.pass.upcoming = []) :
    ∃ t, (s.hostAccess a).done = .next t
      ∧ t = { u.deliver with pass := t.pass, mem := t.mem } ∧ t.wordPassed u addr enables data ∧ t.queueKept u := by
  rw [State.hostAccess_of_classify hfree hfetch hclass]
  exact State.claimedWrite_delivers hup addr enables data

theorem State.wordPassed_congr {t s u : State} {addr : Addr} {enables : Enables} {data : Word}
    (hpass : u.pass = s.pass) (hmem : u.mem = s.mem) :
    t.wordPassed u addr enables data ↔ t.wordPassed s addr enables data := by
  simp only [State.wordPassed, State.cycleEnded, hpass, hmem]

theorem State.queueKept_congr {t s u : State} (hpass : u.pass = s.pass) : t.queueKept u ↔ t.queueKept s := by
  simp only [State.queueKept, hpass]

end Sys2Proof.Machine
end

section
/-! Setpoint writes and broadcasts (R32 to R37, R149): what the Zone Unit decides, and what the host access leaves. -/

namespace Sys2Proof.Machine

/-! ## The Zone Unit's decisions (R33, R35) -/

theorem State.valueRefusal_of_range {s : State} {z : Fin 40} {v : Nat} (h : v < s.lowLimit z ∨ s.highLimit z < v) :
    s.valueRefusal z v = some .limit := by
  rw [State.valueRefusal, if_pos h]

theorem State.valueRefusal_of_step {s : State} {z : Fin 40} {v : Nat} (hlow : s.lowLimit z ≤ v)
    (hhigh : v ≤ s.highLimit z) (hramp : rampOk s.cell.zones[z].ramp s.zones[z].request v = false) :
    s.valueRefusal z v = some .ramp := by
  rw [State.valueRefusal, if_neg (by omega), hramp]
  rfl

theorem State.valueRefusal_of_ok {s : State} {z : Fin 40} {v : Nat} (hlow : s.lowLimit z ≤ v)
    (hhigh : v ≤ s.highLimit z) (hramp : rampOk s.cell.zones[z].ramp s.zones[z].request v = true) :
    s.valueRefusal z v = none := by
  rw [State.valueRefusal, if_neg (by omega), hramp]
  rfl

theorem State.zoneRefusal_of_unmapped {s : State} {z : Fin 40} (h : s.cell.zones[z].mapped = false) (v : Nat) :
    s.zoneRefusal z v = some .unmapped := by
  rw [State.zoneRefusal, if_pos h]

theorem State.zoneRefusal_of_link {s : State} {z : Fin 40} (hmapped : s.cell.zones[z].mapped = true)
    (hlink : s.link.state ≠ .running) (v : Nat) : s.zoneRefusal z v = some .linkUnavailable := by
  rw [State.zoneRefusal, if_neg (by simp [hmapped, -Fin.getElem_fin]), if_pos hlink]

theorem State.zoneRefusal_of_running {s : State} {z : Fin 40} (hmapped : s.cell.zones[z].mapped = true)
    (hlink : s.link.state = .running) (v : Nat) : s.zoneRefusal z v = s.valueRefusal z v := by
  rw [State.zoneRefusal, if_neg (by simp [hmapped, -Fin.getElem_fin]), if_neg (not_not.mpr hlink)]

theorem State.zoneWrite_of_refusal {s : State} {z : Fin 40} {v : Nat} {reason : SetpointReason}
    (h : s.zoneRefusal z v = some reason) :
    s.zoneWrite z v = s.raise .setpointRefused (byteOf z.val) reason.code := by
  rw [State.zoneWrite, h]

theorem State.zoneWrite_of_same {s : State} {z : Fin 40} {v : Nat} (h : s.zoneRefusal z v = none)
    (hsame : s.zones[z].request = some v) : s.zoneWrite z v = s := by
  rw [State.zoneWrite, h]
  exact if_pos hsame

/-- R34: an accepted value other than the request. -/
theorem State.zoneWrite_of_change {s : State} {z : Fin 40} {v : Nat} (h : s.zoneRefusal z v = none)
    (hother : s.zones[z].request ≠ some v) : s.zoneWrite z v
      = (s.setZone z { s.zones[z] with request := some v, delivery := .pending, counter := 0, notApplied := false }
        ).noteChange z z.val s.zones[z].request v := by
  have hask : s.zones[z].ask v
      = { s.zones[z] with request := some v, delivery := .pending, counter := 0, notApplied := false } := by
    rw [Zone.ask, if_neg hother]
  rw [State.zoneWrite, h, ← hask]
  exact if_neg hother

/-- R36: the daylights after a change entry is handed over. -/
theorem State.noteChange_day (s : State) (z : Fin 40) (target : Nat) (old : Option Nat) (new : Nat) (d : Fin 4) :
    (s.noteChange z target old new).days[d] = if adjacent z d then
      { s.days[d] with record := s.days[d].record.map fun r => r.change s.time target old new } else s.days[d] := by
  rw [State.noteChange, State.setDays_days, getElem_ofFn_fin]

theorem State.broadcastRefusal_of_none {s : State} {p : Fin 5} (h : s.cell.platenZones p = []) (v : Nat) :
    s.broadcastRefusal p v = some (byteOf (0x40 + p.val), .unmapped) := by
  rw [State.broadcastRefusal, if_pos h]

theorem State.broadcastRefusal_of_link {s : State} {p : Fin 5} (h : s.cell.platenZones p ≠ [])
    (hlink : s.link.state ≠ .running) (v : Nat) :
    s.broadcastRefusal p v = some (byteOf (0x40 + p.val), .linkUnavailable) := by
  rw [State.broadcastRefusal, if_neg h, if_pos hlink]

/-- R35 step 3: the first zone of the platen that refuses the value names the refusal. -/
theorem State.broadcastRefusal_of_zone {s : State} {p : Fin 5} {v : Nat} {before after : List (Fin 40)} {z : Fin 40}
    {reason : SetpointReason} (hlink : s.link.state = .running) (hzones : s.cell.platenZones p = before ++ z :: after)
    (hbefore : ∀ y ∈ before, s.valueRefusal y v = none) (hz : s.valueRefusal z v = some reason) :
    s.broadcastRefusal p v = some (byteOf z.val, reason) := by
  have hsome : s.cell.platenZones p ≠ [] := by rw [hzones]; simp
  have hnone : before.findSome? (fun y => (s.valueRefusal y v).map fun r => (y, r)) = none :=
    List.findSome?_eq_none_iff.mpr fun y hy => by rw [hbefore y hy]; rfl
  rw [State.broadcastRefusal, if_neg hsome, if_neg (not_not.mpr hlink), State.broadcastFailure, hzones,
    List.findSome?_append, hnone, List.findSome?_cons, hz]
  rfl

theorem State.broadcastRefusal_of_ok {s : State} {p : Fin 5} {v : Nat} (hsome : s.cell.platenZones p ≠ [])
    (hlink : s.link.state = .running) (hok : ∀ z ∈ s.cell.platenZones p, s.valueRefusal z v = none) :
    s.broadcastRefusal p v = none := by
  have hnone : s.broadcastFailure (s.cell.platenZones p) v = none :=
    List.findSome?_eq_none_iff.mpr fun y hy => by rw [hok y hy]; rfl
  rw [State.broadcastRefusal, if_neg hsome, if_neg (not_not.mpr hlink), hnone]
  rfl

theorem State.platenWrite_of_refusal {s : State} {p : Fin 5} {v : Nat} {source : Byte} {reason : SetpointReason}
    (h : s.broadcastRefusal p v = some (source, reason)) :
    s.platenWrite p v = s.raise .setpointRefused source (reason.code + 0x80) := by
  rw [State.platenWrite, h]

theorem State.platenWrite_of_same {s : State} {p : Fin 5} {v : Nat} (h : s.broadcastRefusal p v = none)
    (hsame : ∀ z ∈ s.cell.platenZones p, s.zones[z].request = some v) : s.platenWrite p v = s := by
  rw [State.platenWrite, h]
  exact if_pos (List.all_eq_true.mpr fun z hz => by simpa [-Fin.getElem_fin] using hsame z hz)

/-- R35, R36: an accepted broadcast that some zone of the platen has not yet requested. -/
theorem State.platenWrite_of_change {s : State} {p : Fin 5} {v : Nat} (h : s.broadcastRefusal p v = none)
    (hother : ∃ z ∈ s.cell.platenZones p, s.zones[z].request ≠ some v) : s.platenWrite p v
      = (s.setZones (Vector.ofFn fun z =>
          if (s.cell.platenZones p).contains z then s.zones[z].ask v else s.zones[z])).noteChange
        (platenZone p) (0x80 + p.val) none v := by
  obtain ⟨z, hz, hne⟩ := hother
  rw [State.platenWrite, h]
  exact if_neg fun hall => hne (by simpa [-Fin.getElem_fin] using List.all_eq_true.mp hall z hz)

theorem adjacent_platenZone (p : Fin 5) (d : Fin 4) :
    adjacent (platenZone p) d = true ↔ p.val = d.val ∨ p.val = d.val + 1 := by
  have hplaten : (platenZone p).val / 8 = p.val := Nat.mul_div_cancel_left _ (by decide)
  simp [adjacent, hplaten]

/-! ## The writes at the host port (R149) -/

theorem lowHalf_of_enables {addr : Addr} {enables : Enables} {data : Word} (h0 : enables.getLsbD 0 = true)
    (h1 : enables.getLsbD 1 = true) : (writeAccess addr enables data).lowHalf = true := by
  simp [Access.lowHalf, writeAccess, h0, h1]

theorem lowHalf_of_not {addr : Addr} {enables : Enables} {data : Word}
    (h : ¬ (enables.getLsbD 0 = true ∧ enables.getLsbD 1 = true)) :
    (writeAccess addr enables data).lowHalf = false := by
  simpa [Access.lowHalf, writeAccess] using h

theorem State.classify_zoneWrite {s : State} {addr : Addr} {z : Fin 40} (h : s.region addr = .setpoint (4 * z.val))
    (enables : Enables) (data : Word) : s.classify (writeAccess addr enables data)
      = if (writeAccess addr enables data).lowHalf then (.suppressed, s.zoneWrite z (setpointValue data))
        else s.partialWrite (writeAccess addr enables data) 1 := by
  simp only [State.classify, writeAccess, h, State.setpointWrite, zoneAt?_word]

theorem State.classify_platenWrite {s : State} {addr : Addr} {p : Fin 5}
    (h : s.region addr = .setpoint (0x100 + 4 * p.val)) (enables : Enables) (data : Word) :
    s.classify (writeAccess addr enables data)
      = if (writeAccess addr enables data).lowHalf then (.suppressed, s.platenWrite p (setpointValue data))
        else s.partialWrite (writeAccess addr enables data) 1 := by
  simp only [State.classify, writeAccess, h, State.setpointWrite, zoneAt?_of_le
      (show 0xA0 ≤ 0x100 + 4 * p.val by omega),
    platenAt?_word]

theorem State.fetchHolds_of_setpoint {s : State} {addr : Addr} {o : Nat} (h : s.region addr = .setpoint o)
    (enables : Enables) (data : Word) : s.fetchHolds (writeAccess addr enables data) = false :=
  State.fetchHolds_of_region fun o' => by rw [writeAccess, h]; simp

/-- Settles O27: the Zone Unit takes the value, and the access ends with its reply. -/
theorem setpointWriteAccepted : Obligations.SetpointWriteAccepted := by
  intro s addr enables data z hfree hregion h0 h1 hmapped hlink hlow hhigh hramp
  have hok : s.zoneRefusal z (setpointValue data) = none := by
    rw [State.zoneRefusal_of_running hmapped hlink, State.valueRefusal_of_ok hlow hhigh hramp]
  have hfetch := State.fetchHolds_of_setpoint hregion enables data
  have hclass := State.classify_zoneWrite hregion enables data
  rw [if_pos (lowHalf_of_enables h0 h1)] at hclass
  by_cases hsame : s.zones[z].request = some (setpointValue data)
  · rw [State.zoneWrite_of_same hok hsame] at hclass
    exact ⟨_, State.hostAccess_taken hfree hfetch hclass rfl rfl, rfl, fun _ => ⟨rfl, rfl⟩,
      fun hother => absurd hsame hother⟩
  · rw [State.zoneWrite_of_change hok hsame] at hclass
    refine ⟨_, State.hostAccess_taken hfree hfetch hclass rfl rfl, rfl, fun h => absurd h hsame, fun _ =>
      ⟨rfl, fun d => ?_⟩⟩
    exact (State.noteChange_day _ z z.val s.zones[z].request (setpointValue data) d)

/-- Settles O28, by the first check that fails. -/
theorem setpointWriteRefused : Obligations.SetpointWriteRefused := by
  refine ⟨fun s addr enables data z reason hfree hregion h0 h1 hfails => ?_,
    fun s addr enables data p source reason hfree hregion h0 h1 => ?_,
    fun s addr enables data z hfree hregion hpartial => ?_⟩
  · have hrefusal : ∃ r, s.zoneRefusal z (setpointValue data) = some r ∧ r.code = reason := by
      rcases hfails with ⟨hmap, rfl⟩ | ⟨hmap, hlink, rfl⟩ | ⟨hmap, hlink, hrange, rfl⟩ |
          ⟨hmap, hlink, hlow, hhigh, hstep, rfl⟩
      · exact ⟨_, State.zoneRefusal_of_unmapped hmap _, rfl⟩
      · exact ⟨_, State.zoneRefusal_of_link hmap hlink _, rfl⟩
      · exact ⟨_, (State.zoneRefusal_of_running hmap hlink _).trans (State.valueRefusal_of_range hrange), rfl⟩
      · exact ⟨_, (State.zoneRefusal_of_running hmap hlink _).trans (State.valueRefusal_of_step hlow hhigh hstep), rfl⟩
    obtain ⟨r, hr, rfl⟩ := hrefusal
    have hclass := State.classify_zoneWrite hregion enables data
    rw [if_pos (lowHalf_of_enables h0 h1), State.zoneWrite_of_refusal hr] at hclass
    exact State.hostAccess_raises hfree (State.fetchHolds_of_setpoint hregion enables data) hclass
  · intro zones inRange inStep hfails
    have hok : ∀ y, inRange y ∧ inStep y → s.valueRefusal y (setpointValue data) = none :=
      fun y hy => State.valueRefusal_of_ok hy.1.1 hy.1.2 hy.2
    have hrefusal : ∃ r, s.broadcastRefusal p (setpointValue data) = some (source, r) ∧ r.code + 0x80 = reason := by
      rcases hfails with ⟨hnone, rfl, rfl⟩ | ⟨hsome, hlink, rfl, rfl⟩ |
          ⟨hlink, before, after, z, hzones, hbefore, rfl, hz⟩
      · exact ⟨_, State.broadcastRefusal_of_none hnone _, rfl⟩
      · exact ⟨_, State.broadcastRefusal_of_link hsome hlink _, rfl⟩
      · rcases hz with ⟨hrange, rfl⟩ | ⟨⟨hlow, hhigh⟩, hstep, rfl⟩
        · have hout : setpointValue data < s.lowLimit z ∨ s.highLimit z < setpointValue data := by
            simp only [inRange] at hrange
            omega
          exact ⟨_, State.broadcastRefusal_of_zone hlink hzones (fun y hy => hok y (hbefore y hy))
            (State.valueRefusal_of_range hout), rfl⟩
        · exact ⟨_, State.broadcastRefusal_of_zone hlink hzones (fun y hy => hok y (hbefore y hy))
            (State.valueRefusal_of_step hlow hhigh (by simpa [inStep, -Fin.getElem_fin] using hstep)), rfl⟩
    obtain ⟨r, hr, rfl⟩ := hrefusal
    have hclass := State.classify_platenWrite hregion enables data
    rw [if_pos (lowHalf_of_enables h0 h1), State.platenWrite_of_refusal hr] at hclass
    exact State.hostAccess_raises hfree (State.fetchHolds_of_setpoint hregion enables data) hclass
  · have hclass := State.classify_zoneWrite hregion enables data
    rw [lowHalf_of_not hpartial] at hclass
    exact State.hostAccess_raises hfree (State.fetchHolds_of_setpoint hregion enables data) hclass

/-- Settles O29: every zone of the platen takes the value, and the records take one entry when any request moved. -/
theorem platenBroadcastAccepted : Obligations.PlatenBroadcastAccepted := by
  refine ⟨fun s addr enables data p hfree hregion h0 h1 hsome hlink hchecks => ?_,
    fun s addr enables data p hfree hregion hpartial => ?_⟩
  · have hok : s.broadcastRefusal p (setpointValue data) = none :=
      State.broadcastRefusal_of_ok hsome hlink fun z hz =>
        State.valueRefusal_of_ok (hchecks z hz).1 (hchecks z hz).2.1 (hchecks z hz).2.2
    have hfetch := State.fetchHolds_of_setpoint hregion enables data
    have hclass := State.classify_platenWrite hregion enables data
    rw [if_pos (lowHalf_of_enables h0 h1)] at hclass
    by_cases hother : ∃ z ∈ s.cell.platenZones p, s.zones[z].request ≠ some (setpointValue data)
    · rw [State.platenWrite_of_change hok hother] at hclass
      refine ⟨_, State.hostAccess_taken hfree hfetch hclass (by simp [State.noteChange]) (by simp [State.noteChange]),
        by simp [State.noteChange], fun z => ?_, fun _ d => ?_, fun hsame => ?_⟩
      · simp only [State.noteChange, State.setDays_zones, State.setZones_zones, getElem_ofFn_fin, List.contains_iff_mem,
          Zone.ask]
        by_cases hz : z ∈ s.cell.platenZones p
        · by_cases hreq : s.zones[z].request = some (setpointValue data)
          · rw [if_pos hz, if_pos hreq, if_neg fun h => h.2 hreq]
          · rw [if_pos hz, if_neg hreq, if_pos ⟨hz, hreq⟩]
        · rw [if_neg hz, if_neg fun h => hz h.1]
      · have hday : ∀ v, ((s.setZones v).noteChange (platenZone p) (0x80 + p.val) none (setpointValue data)).days[d]
            = if p.val = d.val ∨ p.val = d.val + 1 then
                { s.days[d] with
                  record := s.days[d].record.map fun r =>
                    r.change s.time (0x80 + p.val) none (setpointValue data) }
              else s.days[d] := fun v => by
          rw [State.noteChange_day]
          simp only [adjacent_platenZone]
          rfl
        simp only [hday]
      · obtain ⟨z, hz, hne⟩ := hother
        exact absurd (hsame z hz) hne
    · have hsame : ∀ z ∈ s.cell.platenZones p, s.zones[z].request = some (setpointValue data) := by
        simpa [-Fin.getElem_fin] using hother
      rw [State.platenWrite_of_same hok hsame] at hclass
      refine ⟨_, State.hostAccess_taken hfree hfetch hclass rfl rfl, rfl, fun z => ?_, fun h => absurd h hother,
        fun _ => rfl⟩
      rw [if_neg fun h => h.2 (hsame z h.1)]
  · have hclass := State.classify_platenWrite hregion enables data
    rw [lowHalf_of_not hpartial] at hclass
    exact State.hostAccess_raises hfree (State.fetchHolds_of_setpoint hregion enables data) hclass

end Sys2Proof.Machine
end

section
/-! Host accesses to the command window, the map page and the image (R117, R137 to R139, R146 to R153, R161, R176). -/

namespace Sys2Proof.Machine

theorem State.fetchHolds_of_command {s : State} {addr : Addr} {o : Nat} (h : s.region addr = .command o)
    (enables : Enables) (data : Word) : s.fetchHolds (writeAccess addr enables data) = false :=
  State.fetchHolds_of_region fun o' => by rw [writeAccess, h]; simp

/-- A write that its owner takes without a report, and that passes as it stands. -/
theorem State.hostAccess_passes_silent {s u : State} {a : Access} {addr : Addr} {enables : Enables} {data : Word}
    (hfree : s.portFree = true) (hfetch : s.fetchHolds a = false)
    (hclass : s.classify a = (.passed ⟨⟨addr, enables, some data⟩, none⟩, u)) (hpass : u.pass = s.pass)
    (hmem : u.mem = s.mem) (hoffers : u.offers = s.offers) :
    ∃ t, (s.hostAccess a).done = .next t ∧ t = { u with pass := t.pass, mem := t.mem }
      ∧ t.wordPassed s addr enables data ∧ t.queueKept s := by
  obtain ⟨-, hup, hno⟩ := s.portFree_iff.mp hfree
  obtain ⟨t, hexec, hframe, hword, hqueue⟩ := State.hostAccess_passes hfree hfetch hclass (hpass ▸ hup)
  rw [State.deliver_nil (hoffers.trans hno)] at hframe
  exact ⟨t, hexec, hframe, (State.wordPassed_congr hpass hmem).mp hword, (State.queueKept_congr hpass).mp hqueue⟩

/-! ## Command writes (R152, R176) -/

theorem withOutcome_eq_wordOf (data : Word) (outcome : Byte) :
    withOutcome data outcome = wordOf (wordByte data 0) (wordByte data 1) (wordByte data 2) outcome := by
  have hlow : wordByte data 2 ++ wordByte data 1 ++ wordByte data 0 = data.extractLsb' 0 24 := by
    have h21 : wordByte data 2 ++ wordByte data 1 = data.extractLsb' 8 16 :=
      BitVec.extractLsb'_append_extractLsb'_eq_extractLsb' rfl
    rw [h21]
    exact BitVec.extractLsb'_append_extractLsb'_eq_extractLsb' rfl
  rw [wordOf_eq_append, hlow, withOutcome]

/-- R176 test 4: a code that the channel's owner does not take is refused UNKNOWN CODE. -/
theorem State.ownerDecision_unknown {c : Fin 10} {w : Stamp} (h : w.code ∉ (channelOwner c).codes) (s : State) :
    s.ownerDecision c w = (0x40, s) := by
  unfold State.ownerDecision
  cases howner : channelOwner c with
  | daylight d =>
    rw [howner] at h
    simp only [ChannelOwner.codes, List.mem_cons, List.not_mem_nil, or_false, not_or] at h
    obtain ⟨h1, h2, h3, h4, h5⟩ := h
    simp only [State.dayCommand, if_neg h1, if_neg h2, if_neg h3, if_neg h4, if_neg h5]
  | head k =>
    rw [howner] at h
    simp only [ChannelOwner.codes, List.mem_cons, List.not_mem_nil, or_false, not_or] at h
    obtain ⟨h1, h2, h3⟩ := h
    simp only [State.headCommand, if_neg h1, if_neg h2, if_neg h3]
  | link =>
    rw [howner] at h
    simp only [ChannelOwner.codes, List.mem_cons, List.not_mem_nil, or_false] at h
    simp only [State.linkCommand, if_neg h]
  | lines =>
    rw [howner] at h
    simp only [ChannelOwner.codes, List.mem_cons, List.not_mem_nil, or_false] at h
    simp only [State.linesCommand, if_neg h]

theorem State.classify_commandWrite {s : State} {addr : Addr} {o : Nat} (h : s.region addr = .command o)
    (enables : Enables) (data : Word) : s.classify (writeAccess addr enables data)
      = s.commandWrite (writeAccess addr enables data) o data := by
  simp only [State.classify, writeAccess, h]

theorem State.classify_channelWrite {s : State} {addr : Addr} {c : Fin 10} (h : s.region addr = .command (4 * c.val))
    (data : Word) : s.classify (writeAccess addr 0xF#4 data) = s.channelWrite (writeAccess addr 0xF#4 data) c data := by
  rw [State.classify_commandWrite h, State.commandWrite, channelAt?_word]
  rfl

/-- Settles O40, test by test. -/
theorem commandWriteTests : Obligations.CommandWriteTests := by
  refine fun s addr enables data hfree => ⟨fun hregion => ?_, fun c hregion =>
      ⟨fun hpartial => ?_, fun hfull hbusy => ?_,
    fun hfull hidle hcode => ?_⟩⟩
  · have hclass := State.classify_commandWrite hregion enables data
    rw [State.commandWrite, channelAt?_of_le (le_refl _)] at hclass
    exact State.hostAccess_raises hfree (State.fetchHolds_of_command hregion enables data) hclass
  · have hclass := State.classify_commandWrite hregion enables data
    rw [State.commandWrite, channelAt?_word] at hclass
    exact State.hostAccess_raises hfree (State.fetchHolds_of_command hregion enables data)
      (hclass.trans (if_neg hpartial))
  · subst hfull
    have hclass := State.classify_channelWrite hregion data
    rw [State.channelWrite, hbusy] at hclass
    exact State.hostAccess_raises hfree (State.fetchHolds_of_command hregion 0xF#4 data) hclass
  · subst hfull
    have hclass := State.classify_channelWrite hregion data
    have hdec : s.ownerDecision c (stampOf data (writeAccess addr 0xF#4 data).addr) = (0x40, s) :=
      State.ownerDecision_unknown hcode s
    rw [State.channelWrite, State.channelBusy_of_idle hidle, hdec] at hclass
    rw [← withOutcome_eq_wordOf]
    exact State.hostAccess_passes_silent hfree (State.fetchHolds_of_command hregion 0xF#4 data) hclass rfl rfl rfl

/-! ## Writes that no owner takes (R146, R149, R150, R152, R153) -/

/-- Settles O57, by the window. -/
theorem unownedWritesAreSuppressed : Obligations.UnownedWritesAreSuppressed := by
  refine fun s addr enables data o hfree => ⟨fun source page hcases => ?_, fun hregion hidle ho => ?_⟩
  · rcases hcases with ⟨hr, rfl, rfl⟩ | ⟨hr, rfl, rfl⟩ | ⟨hr, rfl, rfl, hlow, hplaten⟩ | ⟨hr, rfl, rfl, hlow⟩
    · exact State.hostAccess_raises hfree (State.fetchHolds_of_region fun o' => by rw [writeAccess, hr]; simp)
        (by simp only [State.classify, writeAccess, hr, State.ownedWrite])
    · exact State.hostAccess_raises hfree (State.fetchHolds_of_region fun o' => by rw [writeAccess, hr]; simp)
        (by simp only [State.classify, writeAccess, hr, State.ownedWrite])
    · exact State.hostAccess_raises hfree (State.fetchHolds_of_setpoint hr enables data)
        (by simp only [State.classify, writeAccess, hr, State.setpointWrite, zoneAt?_of_le hlow,
            platenAt?_of_not hplaten,
          State.ownedWrite])
    · have hclass := State.classify_commandWrite hr enables data
      rw [State.commandWrite, channelAt?_of_le hlow] at hclass
      exact State.hostAccess_raises hfree (State.fetchHolds_of_command hr enables data) hclass
  · refine State.hostAccess_taken hfree (State.fetchHolds_of_idle hidle _) ?_ rfl rfl
    simp only [State.classify, writeAccess, hregion, State.mapPageWrite, if_pos ho]

/-! ## The class mask (R137, R147) -/

theorem State.classify_mapPageWrite (s : State) {o : Nat} (hpage : o < 0x1000) (hword : o % 4 = 0) (enables : Enables)
    (data : Word) : s.classify (writeAccess (mapAddr o) enables data)
      = s.mapPageWrite (writeAccess (mapAddr o) enables data) o data := by
  simp only [State.classify, writeAccess, s.region_mapAddr hpage hword]

theorem State.takenWord_partial {s : State} {enables : Enables} (h : enables ≠ 0xF#4) (addr : Addr) (data : Word)
    (taken : Disposition × State) : s.takenWord (writeAccess addr enables data) taken
      = (.suppressed, s.raise .partialWrite 0 (BitVec.setWidth 8 enables)) := if_neg h

/-- Settles O54, by the passage state and the byte enables. -/
theorem classMaskWriteIsTakenWhileMapped : Obligations.ClassMaskWriteIsTakenWhileMapped := by
  intro s enables data hfree hidle
  have hfetch := State.fetchHolds_of_idle hidle (writeAccess (mapAddr 0x008) enables data)
  have hclass := s.classify_mapPageWrite (o := 0x008) (by decide) (by decide) enables data
  refine ⟨fun hmapped hfull => ?_, fun hunmapped => ?_, fun hmapped hpartial => ?_⟩
  · subst hfull
    simp only [State.mapPageWrite, hmapped] at hclass
    exact State.hostAccess_passes_silent hfree hfetch hclass rfl rfl rfl
  · simp only [State.mapPageWrite, hunmapped] at hclass
    exact State.hostAccess_passes_silent hfree hfetch hclass rfl rfl rfl
  · simp only [State.mapPageWrite, hmapped] at hclass
    exact State.hostAccess_raises hfree hfetch (hclass.trans (State.takenWord_partial hpartial _ _ _))

end Sys2Proof.Machine
end

section
/-! The attention word (R138), the image blocks and their latches (R151), the read index (R117) and the commit word
(R161). -/

namespace Sys2Proof.Machine

theorem State.classify_mapPageRead (s : State) {o : Nat} (hpage : o < 0x1000) (hword : o % 4 = 0) :
    s.classify (readAccess (mapAddr o)) = s.mapPageRead (readAccess (mapAddr o)) o := by
  simp only [State.classify, readAccess, s.region_mapAddr hpage hword]

/-! ## The attention word (R138, R148) -/

/-- The entries of a legal set are told apart by their keys. -/
theorem Attention.Legal.key_injective {a : Attention} (h : a.Legal) {x y : Entry} (hx : x ∈ a.set) (hy : y ∈ a.set)
    (hkey : x.key = y.key) : x = y := by
  obtain ⟨-, hpair, -⟩ := h
  exact List.inj_on_of_nodup_map (hpair.imp fun hlt => Nat.ne_of_lt hlt) hx hy hkey

/-- The entry of the lowest key among those a read may serve is the one it serves: the set stands in key order. -/
theorem Attention.Legal.serves_eq {a : Attention} (h : a.Legal) {e : Entry} (he : e ∈ a.ready)
    (hleast : ∀ x ∈ a.ready, e.key ≤ x.key) : a.serves = some e := by
  obtain ⟨-, hpair, -⟩ := h
  rw [List.pairwise_map] at hpair
  have hready : a.ready.Pairwise fun x y => x.key < y.key := hpair.sublist List.filter_sublist
  rw [Attention.serves]
  cases hlist : a.ready with
  | nil => rw [hlist] at he; cases he
  | cons x rest =>
    rw [hlist] at he hleast hready
    rcases List.mem_cons.mp he with rfl | hrest
    · rfl
    · have hlt := List.rel_of_pairwise_cons hready hrest
      have hle := hleast x List.mem_cons_self
      omega

/-- R138: the read removes the entry it serves, alone. -/
theorem Attention.Legal.afterRead_eq {a : Attention} (h : a.Legal) {e : Entry} (he : e ∈ a.set)
    (hserves : a.serves = some e) :
    a.afterRead = { a with set := a.set.filter (fun x => decide (x ≠ e)), overflow := false } := by
  have hsame : ∀ x ∈ a.set, (!(x.kind == e.kind && x.source == e.source)) = decide (x ≠ e) := fun x hx => by
    have hiff : x.kind = e.kind ∧ x.source = e.source ↔ x = e :=
      ⟨fun ⟨hk, hs⟩ => h.key_injective hx he (by rw [Entry.key, Entry.key, hk, hs]), fun heq => by rw [heq]; exact
          ⟨rfl, rfl⟩⟩
    rw [Bool.eq_iff_iff]
    simp [← hiff]
  rw [Attention.afterRead, hserves]
  simp only [List.filter_congr hsame]

theorem State.classify_attentionRead (s : State) :
    s.classify (readAccess (mapAddr 0x004)) = (.served s.att.word, s.setAtt s.att.afterRead) := by
  rw [s.classify_mapPageRead (by decide) (by decide)]
  rfl

/-- Settles O52: the head of the ready entries, or the hold of a running fetch. -/
theorem attentionReadServesTheMostUrgent : Obligations.AttentionReadServesTheMostUrgent := by
  intro s hfree hlegal
  obtain ⟨hport, hup, hoffers⟩ := s.portFree_iff.mp hfree
  have hread : ∀ {a : Attention} {w : Word}, s.fetchRuns = false → s.att.word = w → s.att.afterRead = a →
      exec .attentionRead s = .next { s with att := a, pass := { s.pass with reply := .read w } } := by
    rintro a w hidle rfl rfl
    exact State.hostAccess_ended hfree (State.fetchHolds_of_idle hidle _) s.classify_attentionRead rfl hport hup hoffers
  refine ⟨fun hidle => ⟨fun e he hleast => ?_, fun hnone => ?_⟩, fun hruns => ?_⟩
  · have hserves := hlegal.serves_eq he hleast
    exact hread hidle (by simp only [Attention.word, hserves])
      (hlegal.afterRead_eq (List.mem_of_mem_filter he) hserves)
  · have hserves : s.att.serves = none := by rw [Attention.serves, hnone]; rfl
    exact hread hidle (by simp only [Attention.word, hserves]) (by rw [Attention.afterRead, hserves])
  · have hhold : s.fetchHolds (readAccess (mapAddr 0x004)) = true := by
      rw [State.fetchHolds, hruns]
      decide
    have htake : s.takeAccess (readAccess (mapAddr 0x004))
        = s.setPort (.heldFetch (readAccess (mapAddr 0x004))) .none := by
      rw [State.takeAccess, if_pos hhold]
    have hend : (s.hostAccess (readAccess (mapAddr 0x004))).done
        = .next (s.setPort (.heldFetch (readAccess (mapAddr 0x004))) .none) := by
      rw [State.hostAccess_idle _ (by simp [State.portIdle, hport]) hup hoffers, htake]
      exact State.present_nil_done hup hoffers
    exact hend

/-! ## The image blocks (R151) -/

theorem State.classify_imageRead {s : State} {addr : Addr} {o : Nat} (h : s.region addr = .image o) :
    s.classify (readAccess addr) = (.served (s.imageRead o).1, (s.imageRead o).2) := by
  simp only [State.classify, readAccess, h]

/-- Settles O55: the first word fills the latch, a later one is served from it or, when it is empty, live. -/
theorem imageReadsUseTheLatch : Obligations.ImageReadsUseTheLatch := by
  intro s addr o b hfree hregion
  obtain ⟨hport, hup, hoffers⟩ := s.portFree_iff.mp hfree
  have hfetch : s.fetchHolds (readAccess addr) = false :=
    State.fetchHolds_of_region fun o' => by rw [readAccess, hregion]; simp
  have hclass := State.classify_imageRead hregion
  refine ⟨fun hfirst => ?_, fun k hlater => ⟨fun words hfull => ?_, fun hempty => ?_⟩⟩
  · simp only [State.imageRead, hfirst] at hclass
    exact State.hostAccess_ended hfree hfetch hclass rfl hport hup hoffers
  · simp only [State.imageRead, hlater, hfull] at hclass
    exact State.hostAccess_ended hfree hfetch hclass rfl hport hup hoffers
  · simp only [State.imageRead, hlater, hempty] at hclass
    exact State.hostAccess_ended hfree hfetch hclass rfl hport hup hoffers

/-! ## The commit word (R147, R161, R162) -/

theorem State.classify_commit (s : State) (data : Word) :
    s.classify (writeAccess (mapAddr 0x018) 0xF#4 data)
      = s.takeCommit (writeAccess (mapAddr 0x018) 0xF#4 data) data := by
  rw [s.classify_mapPageWrite (by decide) (by decide)]
  rfl

/-- A write that its owner takes with one report, and that passes to memory. -/
theorem State.hostAccess_passes_raising {s u : State} {a : Access} {addr : Addr} {enables : Enables} {data : Word}
    {r : Report} (hfree : s.portFree = true) (hfetch : s.fetchHolds a = false)
    (hclass : s.classify a = (.passed ⟨⟨addr, enables, some data⟩, none⟩, u)) (hpass : u.pass = s.pass)
    (hmem : u.mem = s.mem) (hoffers : u.offers = [r]) :
    ∃ t, (s.hostAccess a).done = .next t
      ∧ t = { u with pass := t.pass, mem := t.mem, att := u.att.take r, offers := [] }
      ∧ t.wordPassed s addr enables data ∧ t.queueKept s := by
  obtain ⟨-, hup, -⟩ := s.portFree_iff.mp hfree
  obtain ⟨t, hexec, hframe, hword, hqueue⟩ := State.hostAccess_passes hfree hfetch hclass (hpass ▸ hup)
  rw [State.deliver_single hoffers] at hframe
  exact ⟨t, hexec, hframe, (State.wordPassed_congr hpass hmem).mp hword, (State.queueKept_congr hpass).mp hqueue⟩

/-- Settles O58, by the byte enables, the commit in flight and the generation. -/
theorem commitWriteIsDecidedAtItsTaking : Obligations.CommitWriteIsDecidedAtItsTaking := by
  intro s enables data hfree hidle
  obtain ⟨hport, hup, hoffers⟩ := s.portFree_iff.mp hfree
  have hfetch := State.fetchHolds_of_idle hidle (writeAccess (mapAddr 0x018) enables data)
  have hclass := s.classify_commit data
  refine ⟨fun hpartial => ?_, fun hfull hbusy => ?_, fun hfull hstage hgen => ?_, fun hfull hstage hzero hgen => ?_⟩
  · have hheld := s.classify_mapPageWrite (o := 0x018) (by decide) (by decide) enables data
    exact State.hostAccess_raises hfree hfetch (hheld.trans (State.takenWord_partial hpartial _ _ _))
  · subst hfull
    have hflight : s.maps.inFlight = true := by simpa [MapUnit.inFlight] using hbusy
    exact State.hostAccess_raises hfree hfetch (hclass.trans (by rw [State.takeCommit, if_pos hflight]))
  · subst hfull
    have hflight : ¬ s.maps.inFlight = true := by simp [MapUnit.inFlight, hstage]
    rw [State.takeCommit, if_neg hflight, if_pos hgen] at hclass
    obtain ⟨t, hexec, hframe, hword, hqueue⟩ := State.hostAccess_passes_raising hfree hfetch hclass rfl rfl
      (r := .cause .commitRefused 0 generationReason) (by simp [State.raise, hoffers])
    refine ⟨t, hexec, ?_, hword, hqueue⟩
    rw [hoffers]
    exact hframe
  · subst hfull
    have hflight : ¬ s.maps.inFlight = true := by simp [MapUnit.inFlight, hstage]
    rw [State.takeCommit, if_neg hflight, if_neg (not_or.mpr ⟨hzero, hgen⟩)] at hclass
    obtain ⟨t, hexec, hframe, ⟨hcycle, hpass⟩, hqueue⟩ := State.hostAccess_passes hfree hfetch hclass hup
    rw [State.deliver_nil (s := s.startCommit _) hoffers] at hframe
    refine ⟨t, hexec, ?_, hcycle, hqueue, ?_, ?_⟩
    · rw [hframe]; rfl
    · rw [hpass]; rfl
    · rw [hframe]; rfl

/-! ## The read index (R117, R147) -/

/-- R117: the read index moves, and the append test leaves the History Unit's other fields (R118, R120). -/
theorem State.moveRead_hist (s : State) (r : Ring) (value : Nat) :
    (s.moveRead r value).hist.ring = some { r with read := value }
      ∧ (s.moveRead r value).hist.write = s.hist.write ∧ (s.moveRead r value).hist.backlog = s.hist.backlog
      ∧ (s.moveRead r value).hist.occupied = s.hist.occupied ∧ (s.moveRead r value).hist.counter = s.hist.counter := by
  simp [State.moveRead]

theorem State.appendTest_offers (s : State) : s.appendTest.offers = s.offers
    ∨ ∃ n : Byte, s.appendTest.offers = s.offers ++ [.cause .ringFull 0 n] := by
  unfold State.appendTest
  split
  · exact .inl rfl
  · split
    · split
      · split
        · exact .inl rfl
        · exact .inr ⟨_, rfl⟩
      · exact .inl rfl
    · exact .inl rfl

theorem State.appendTest_pass (s : State) :
    ∃ q w, s.appendTest.pass = { s.pass with queue := q, waiting := w } := by
  obtain ⟨x, f, q, w, o, h⟩ := s.appendTest_spec
  exact ⟨q, w, by rw [h]; rfl⟩

/-- One report or none uses up no free value (R135, log 9). -/
theorem State.deliver_choice_of_le {s : State} (h : s.offers.length ≤ 1) : s.deliver.choice = s.choice := by
  cases hoffers : s.offers with
  | nil => rw [State.deliver_nil hoffers]
  | cons r rs =>
    cases rs with
    | nil => rw [State.deliver_single hoffers]; rfl
    | cons r' rs => simp [hoffers] at h

/-- An owner that changes the queue of the passage and no more of it leaves the write passed. -/
theorem State.wordPassed_of_queue {t s u : State} {addr : Addr} {enables : Enables} {data : Word}
    (hpass : ∃ q w, u.pass = { s.pass with queue := q, waiting := w }) (hmem : u.mem = s.mem)
    (h : t.wordPassed u addr enables data) : t.wordPassed s addr enables data := by
  obtain ⟨q, w, hq⟩ := hpass
  obtain ⟨hcycle, hframe⟩ := h
  refine ⟨?_, ?_⟩
  · simpa only [State.cycleEnded, hmem] using hcycle
  · rw [hq] at hframe
    exact hframe

theorem State.classify_readIndex {s : State} (hmapped : s.pass.mapped = true) (data : Word) :
    s.classify (writeAccess (mapAddr 0x010) 0xF#4 data)
      = ((writeAccess (mapAddr 0x010) 0xF#4 data).pass, s.takeReadIndex data.toNat) := by
  rw [s.classify_mapPageWrite (by decide) (by decide)]
  simp only [State.mapPageWrite, hmapped]
  rfl

theorem State.takeReadIndex_of_large {s : State} {r : Ring} (hring : s.hist.ring = some r) {v : Nat} (h : r.cap ≤ v) :
    s.takeReadIndex v = s.raise .ringIndexInvalid 0 0x01 := by
  rw [State.takeReadIndex, hring]
  exact if_pos h

theorem State.takeReadIndex_of_appending {s : State} {r : Ring} (hring : s.hist.ring = some r) {v w : Nat}
    (h : v < r.cap) (happend : s.hist.append = some w) (hv : v = (w + 1) % r.cap) :
    s.takeReadIndex v = s.raise .ringIndexInvalid 0 0x02 := by
  have hany : (s.hist.append.any fun w => v == (w + 1) % r.cap) = true := by simp [happend, hv]
  rw [State.takeReadIndex, hring]
  simp only [if_neg (Nat.not_le.mpr h), hany, if_true]

theorem State.takeReadIndex_of_free {s : State} {r : Ring} (hring : s.hist.ring = some r) {v : Nat} (h : v < r.cap)
    (hfree : ∀ w, s.hist.append = some w → v ≠ (w + 1) % r.cap) : s.takeReadIndex v = s.moveRead r v := by
  have hany : (s.hist.append.any fun w => v == (w + 1) % r.cap) = false := by
    cases happend : s.hist.append with
    | none => rfl
    | some w => simpa using hfree w happend
  rw [State.takeReadIndex, hring]
  simp only [if_neg (Nat.not_le.mpr h), hany]
  rfl

/-- What the History Unit's decision on a read-index write can change (R117, R118, R120). -/
theorem State.takeReadIndex_frame {s : State} (hoffers : s.offers = []) (v : Nat) :
    (s.takeReadIndex v).deliver = { s with
        hist := (s.takeReadIndex v).hist, att := (s.takeReadIndex v).deliver.att, pass := (s.takeReadIndex v).pass }
      ∧ ∃ q w, (s.takeReadIndex v).pass = { s.pass with queue := q, waiting := w } := by
  have raised : ∀ detail, (s.raise .ringIndexInvalid 0 detail).deliver = { s with
      att := (s.raise .ringIndexInvalid 0 detail).deliver.att } := fun detail => by
    rw [State.deliver_single (r := .cause .ringIndexInvalid 0 detail) (by simp [State.raise, hoffers])]
    apply State.ext_fields <;> simp [State.raise, hoffers]
  unfold State.takeReadIndex
  split
  · rw [State.deliver_nil hoffers]
    exact ⟨rfl, s.pass.queue, s.pass.waiting, rfl⟩
  · next r _ =>
    split
    · exact ⟨raised 0x01, s.pass.queue, s.pass.waiting, rfl⟩
    · split
      · exact ⟨raised 0x02, s.pass.queue, s.pass.waiting, rfl⟩
      · refine ⟨?_, State.appendTest_pass _⟩
        have hshort : (s.moveRead r v).offers.length ≤ 1 := by
          rcases (s.setHist { s.hist with ring := some { r with read := v } }).appendTest_offers with h | ⟨n, h⟩ <;>
            simp [State.moveRead, h, hoffers]
        apply State.ext_fields <;> simp [State.moveRead, hoffers]
        simpa [State.moveRead] using State.deliver_choice_of_le hshort

/-- Settles O51, by the passage state, the byte enables and the History Unit's decision. -/
theorem readIndexWriteIsTakenOrNot : Obligations.ReadIndexWriteIsTakenOrNot := by
  intro s enables data hfree hidle
  obtain ⟨hport, hup, hoffers⟩ := s.portFree_iff.mp hfree
  have hfetch := State.fetchHolds_of_idle hidle (writeAccess (mapAddr 0x010) enables data)
  have hwrite := s.classify_mapPageWrite (o := 0x010) (by decide) (by decide) enables data
  refine ⟨fun r hmapped hfull hring => ?_, fun hunmapped => ?_, fun hmapped hpartial => ?_⟩
  · subst hfull
    obtain ⟨hframe, hqueue⟩ := State.takeReadIndex_frame hoffers data.toNat
    obtain ⟨q, w, hpass⟩ := hqueue
    obtain ⟨t, hexec, htframe, hword, -⟩ := State.hostAccess_passes hfree hfetch
      (State.classify_readIndex hmapped data) (by rw [hpass]; exact hup)
    have hmem : (s.takeReadIndex data.toNat).mem = s.mem := by
      rw [← State.deliver_mem, hframe]
    have hhist : t.hist = (s.takeReadIndex data.toNat).hist := by rw [htframe, State.deliver_hist]
    have hatt : t.att = (s.takeReadIndex data.toNat).deliver.att := by rw [htframe]
    refine ⟨t, hexec, ?_, State.wordPassed_of_queue ⟨q, w, hpass⟩ hmem hword, fun hlarge => ?_,
      fun w' hlt happend hv => ?_, fun hlt hnot => ?_⟩
    · rw [hframe] at htframe
      rw [hhist, hatt]
      exact htframe
    · rw [hhist, hatt, State.takeReadIndex_of_large hring hlarge,
        State.deliver_single (r := .cause .ringIndexInvalid 0 0x01) (by simp [State.raise, hoffers])]
      exact ⟨rfl, rfl⟩
    · rw [hhist, hatt, State.takeReadIndex_of_appending hring hlt happend hv,
        State.deliver_single (r := .cause .ringIndexInvalid 0 0x02) (by simp [State.raise, hoffers])]
      exact ⟨rfl, rfl⟩
    · rw [hhist, State.takeReadIndex_of_free hring hlt hnot]
      exact s.moveRead_hist r data.toNat
  · simp only [State.mapPageWrite, hunmapped] at hwrite
    obtain ⟨t, hexec, hframe, hword, -⟩ := State.hostAccess_passes_silent hfree hfetch hwrite rfl rfl rfl
    exact ⟨t, hexec, hframe, hword⟩
  · simp only [State.mapPageWrite, hmapped] at hwrite
    exact State.hostAccess_raises hfree hfetch (hwrite.trans (State.takenWord_partial hpartial _ _ _))

end Sys2Proof.Machine
end

section
/-! The part side's cycles (R153 to R156, R162): what the arrival of a queued write leaves of the host side, the stamps,
the queue's order, the RECORD reads and the fetch. -/

namespace Sys2Proof.Machine

/-! ## What the part's own work leaves of the host side -/

/-- The host side and memory stand as they did: the port, what waits behind it, the last reply, memory. -/
structure HostKept (s t : State) : Prop where
  port : t.pass.port = s.pass.port
  upcoming : t.pass.upcoming = s.pass.upcoming
  reply : t.pass.reply = s.pass.reply
  mem : t.mem = s.mem

theorem HostKept.refl (s : State) : HostKept s s := ⟨rfl, rfl, rfl, rfl⟩

theorem HostKept.trans {s t u : State} (h : HostKept s t) (h' : HostKept t u) : HostKept s u :=
  ⟨h'.port.trans h.port, h'.upcoming.trans h.upcoming, h'.reply.trans h.reply, h'.mem.trans h.mem⟩

/-- Work that replaces the queue and the waiting writes of the passage, and more of other units, keeps the host side. -/
theorem HostKept.of_queue {s t : State} (hpass : ∃ q w, t.pass = { s.pass with queue := q, waiting := w })
    (hmem : t.mem = s.mem) : HostKept s t := by
  obtain ⟨q, w, h⟩ := hpass
  exact ⟨by rw [h], by rw [h], by rw [h], hmem⟩

theorem hostKept_appendTest (s : State) : HostKept s s.appendTest := .of_queue s.appendTest_pass (by simp)

theorem State.injectAll_queue (s : State) (es : List QEntry) :
    ∃ q w, (s.injectAll es).pass = { s.pass with queue := q, waiting := w } := by
  obtain ⟨q, w, h⟩ := s.injectAll_spec es
  exact ⟨q, w, by rw [h]; rfl⟩

theorem hostKept_injectAll (s : State) (es : List QEntry) : HostKept s (s.injectAll es) :=
  .of_queue (s.injectAll_queue es) rfl

theorem State.takeLink_pass (s : State) (x : LinkStep) :
    ∃ q w, (s.takeLink x).pass = { s.pass with queue := q, waiting := w } := by
  cases h : x.completion with
  | none => exact ⟨s.pass.queue, s.pass.waiting, by rw [State.takeLink_of_no_completion h]; rfl⟩
  | some code =>
    obtain ⟨c, q, w, hq⟩ := ((s.setLink x.link).report x.reports).complete_spec linkChannel code
    exact ⟨q, w, by rw [State.takeLink_of_completion h, hq]; rfl⟩

theorem hostKept_switchLink (s : State) (old : CellMap) (first : Bool) : HostKept s (s.switchLink old first) := by
  unfold State.switchLink
  split
  · exact .of_queue (s.takeLink_pass _) (by simp)
  · exact .refl s

theorem hostKept_setMaps (s : State) (x : MapUnit) : HostKept s (s.setMaps x) := ⟨rfl, rfl, rfl, rfl⟩

theorem hostKept_setHist (s : State) (x : History) : HostKept s (s.setHist x) := ⟨rfl, rfl, rfl, rfl⟩

theorem hostKept_raise (s : State) (k : CauseKind) (source detail : Byte) : HostKept s (s.raise k source detail) :=
  ⟨rfl, rfl, rfl, rfl⟩

theorem hostKept_switchBlocks (s : State) (old : CellMap) (first : Bool) (copy : List Word) :
    HostKept s (s.switchBlocks old first copy) := by
  refine ⟨?_, ?_, ?_, ?_⟩ <;> simp [State.switchBlocks]

theorem hostKept_switchMap (s : State) : HostKept s s.switchMap := by
  unfold State.switchMap
  refine .trans ?_ (hostKept_appendTest _)
  refine .trans ?_ (hostKept_raise _ _ _ _)
  refine .trans ?_ (hostKept_injectAll _ _)
  refine .trans ?_ (hostKept_switchLink _ _ _)
  refine .trans ?_ (hostKept_switchBlocks _ _ _ _)
  exact hostKept_setMaps _ _

theorem hostKept_trySwitch (s : State) : HostKept s s.trySwitch := by
  unfold State.trySwitch
  split
  · exact hostKept_switchMap s
  · exact .refl s

theorem hostKept_endAppend (s : State) : HostKept s s.endAppend := by
  unfold State.endAppend
  split
  · refine .trans ?_ (hostKept_appendTest _)
    refine .trans ?_ (hostKept_trySwitch _)
    exact hostKept_setHist _ _
  · exact .refl s

theorem hostKept_endCommit (s : State) : HostKept s s.endCommit := by
  unfold State.endCommit
  split
  · refine .trans ?_ (hostKept_appendTest _)
    exact hostKept_setMaps _ _
  · exact .refl s

theorem hostKept_reachedMemory (s : State) (p : Purpose) : HostKept s (s.reachedMemory p) := by
  cases p with
  | indexWord => exact hostKept_endAppend s
  | commitStamp => exact hostKept_endCommit s
  | stamp c => exact ⟨rfl, rfl, rfl, rfl⟩
  | recordWord => exact .refl s
  | lastSerial => exact .refl s
  | indexZero => exact .refl s

theorem hostKept_startFetch (s : State) : HostKept s s.startFetch := by
  unfold State.startFetch
  split <;> exact ⟨rfl, rfl, rfl, rfl⟩

/-! ## A queued write that reaches memory (R154) -/

/-- The part with the head of the queue in memory and its producer told, before the port goes on (R154, R159, R162). -/
def State.entryTold (s : State) (e : QEntry) (rest : List QEntry) : State :=
  (((s.setMem (writeWord s.mem (wordBase e.addr) 0xF#4 e.data)).setPass (s.pass.pop rest)).reachedMemory
    e.purpose).startFetch

theorem State.entryReaches_eq (s : State) (e : QEntry) (rest : List QEntry) :
    s.entryReaches e rest = (s.entryTold e rest).resumePort := rfl

/-- Popping the queue counts a held RECORD read down, and touches the queue, what waits for it and the boundary. -/
theorem Passage.pop_frame (p : Passage) (rest : List QEntry) : ∃ q w, p.pop rest
    = { p with queue := q, waiting := w, boundary := p.boundary.map fun n => n - 1, port := p.port.countDown } := by
  obtain ⟨q, w, h, -⟩ := Passage.fill_spec
    { p with queue := rest, boundary := p.boundary.map fun n => n - 1, port := p.port.countDown }
  exact ⟨q, w, h⟩

/-- The host side after a queued write: the port counted down, memory written (R153, R154). -/
theorem State.entryTold_host (s : State) (e : QEntry) (rest : List QEntry) :
    (s.entryTold e rest).pass.port = s.pass.port.countDown
      ∧ (s.entryTold e rest).pass.upcoming = s.pass.upcoming ∧ (s.entryTold e rest).pass.reply = s.pass.reply
      ∧ (s.entryTold e rest).mem = writeWord s.mem (wordBase e.addr) 0xF#4 e.data := by
  obtain ⟨q, w, hpop⟩ := s.pass.pop_frame rest
  have hkept : HostKept ((s.setMem (writeWord s.mem (wordBase e.addr) 0xF#4 e.data)).setPass (s.pass.pop rest))
      (s.entryTold e rest) := (hostKept_reachedMemory _ e.purpose).trans (hostKept_startFetch _)
  refine ⟨?_, ?_, ?_, ?_⟩
  · rw [hkept.port, State.setPass_pass, hpop]
  · rw [hkept.upcoming, State.setPass_pass, hpop]
  · rw [hkept.reply, State.setPass_pass, hpop]
  · rw [hkept.mem, State.setPass_mem, State.setMem_mem]

/-- On a free port the port has nothing to go on with. -/
theorem State.entryReaches_of_idle {s : State} (hport : s.pass.port = .idle) (hup : s.pass.upcoming = [])
    (e : QEntry) (rest : List QEntry) : s.entryReaches e rest = s.entryTold e rest := by
  obtain ⟨hp, hu, -, -⟩ := s.entryTold_host e rest
  rw [State.entryReaches_eq, State.resumePort_of_idle (by rw [hp, hport]; rfl) (by rw [hu, hup])]

theorem State.injectedWrite_of_head {s : State} {e : QEntry} {rest : List QEntry} (hqueue : s.pass.queue = e :: rest)
    (hoffered : s.queueOffered = true) : s.injectedWrite = s.entryReaches e rest := by
  rw [State.injectedWrite, hqueue]
  exact if_pos hoffered

theorem State.injectedWrite_of_free {s : State} {e : QEntry} {rest : List QEntry} (hfree : s.portFree = true)
    (hqueue : s.pass.queue = e :: rest) (hoffered : s.queueOffered = true) :
    s.injectedWrite = s.entryTold e rest := by
  obtain ⟨hport, hup, -⟩ := s.portFree_iff.mp hfree
  rw [State.injectedWrite_of_head hqueue hoffered, State.entryReaches_of_idle hport hup]

theorem State.purposeReaches_of_head {s : State} {e : QEntry} {rest : List QEntry} (hqueue : s.pass.queue = e :: rest)
    (hoffered : s.queueOffered = true) : s.purposeReaches e.purpose = s.injectedWrite := by
  rw [State.purposeReaches, if_pos (by simp [State.nextServes, hoffered, hqueue])]

/-- A queue that is not empty is offered in every stage but WAITING and FETCHING (R156). -/
theorem State.queueOffered_of_stage {s : State} {e : QEntry} {rest : List QEntry} (hqueue : s.pass.queue = e :: rest)
    (hwaiting : s.maps.stage ≠ .waiting) (hfetching : s.maps.stage ≠ .fetching) : s.queueOffered = true := by
  unfold State.queueOffered
  split
  · next h => exact absurd h hfetching
  · next h => exact absurd h hwaiting
  all_goals simp [hqueue]

theorem State.startFetch_of_ne {s : State} (h : s.maps.stage ≠ .waiting) : s.startFetch = s := by
  rw [State.startFetch, if_neg fun h' => h h'.1]

/-- The fetch starts or not: the Map Unit alone may change. -/
theorem State.startFetch_frame (s : State) :
    ∃ m, s.startFetch = s.setMaps m ∧ (s.maps.stage ≠ .waiting → m = s.maps) := by
  by_cases h : s.maps.stage = .waiting ∧ s.pass.boundary = some 0
  · exact ⟨_, by rw [State.startFetch, if_pos h], fun h' => absurd h.1 h'⟩
  · exact ⟨s.maps, by rw [State.startFetch, if_neg h]; rfl, fun _ => rfl⟩

/-! ## Stamps (R178) -/

theorem State.placeStamp_of_ready {s : State} {c : Fin 10} {w : Stamp} {code : Byte}
    (hphase : s.chans[c].phase = .stamping) (hstamp : s.chans[c].stamp = some w)
    (hcode : s.chans[c].completion = some code) (hplaced : s.chans[c].placed = false)
    (hwritten : s.chans[c].written = true) : s.placeStamp c
      = (s.setChan c { s.chans[c] with placed := true }).inject
        ⟨w.addr, wordOf w.code w.tag w.argument code, .stamp c⟩ := by
  simp only [State.placeStamp]
  rw [hstamp, hcode]
  exact if_pos ⟨hphase, hwritten, hplaced⟩

theorem State.placeStamp_of_unwritten {s : State} {c : Fin 10} (h : s.chans[c].written = false) :
    s.placeStamp c = s := by
  simp only [State.placeStamp]
  split
  · exact if_neg fun h' => by rw [h] at h'; exact absurd h'.2.1 (by decide)
  · rfl

/-- Settles O48: the placing by the channel's record, the arrival by the queue's head. -/
theorem stampsFollowTheCommand : Obligations.StampsFollowTheCommand := by
  refine ⟨fun s c w code hoffers hphase hstamp hcode hplaced => ⟨fun hwritten => ?_, fun hwritten => ?_⟩,
    fun s c e rest hfree hqueue hoffered hpurpose => ?_⟩
  · have hplace := State.placeStamp_of_ready hphase hstamp hcode hplaced hwritten
    have hexec : exec (.stampPlaced c) s = .next (s.placeStamp c) :=
      State.done_of_offers_nil (by rw [State.placeStamp_offers, hoffers])
    rw [hexec, hplace]
    rfl
  · have hexec : exec (.stampPlaced c) s = .next (s.placeStamp c) :=
      State.done_of_offers_nil (by rw [State.placeStamp_offers, hoffers])
    rw [hexec, State.placeStamp_of_unwritten hwritten]
  · obtain ⟨-, -, hoffers⟩ := s.portFree_iff.mp hfree
    have hreach := State.purposeReaches_of_head hqueue hoffered
    rw [hpurpose] at hreach
    have hwrite := State.injectedWrite_of_free hfree hqueue hoffered
    obtain ⟨m, hfetch, hmaps⟩ := State.startFetch_frame
      (((s.setMem (writeWord s.mem (wordBase e.addr) 0xF#4 e.data)).setPass
          (s.pass.pop rest)).setChan c Channel.powerOn)
    rw [State.entryTold, hpurpose, State.reachedMemory, hfetch] at hwrite
    have hdone : s.injectedWrite.done = .next s.injectedWrite :=
      State.done_of_offers_nil (by rw [hwrite]; exact hoffers)
    refine ⟨s.injectedWrite, (congrArg State.done hreach).trans hdone, hdone, ?_⟩
    rw [hwrite]
    exact ⟨rfl, rfl, rfl, fun hstage => hmaps hstage⟩

/-! ## The queue's order (R154, R156) -/

theorem Passage.fill_of_no_waiting {p : Passage} (h : p.waiting = []) : p.fill = p := by
  unfold Passage.fill
  rw [h]
  split <;> rfl

/-- R154: a free place goes to the first write of the producer that has waited longest. -/
theorem Passage.fill_of_waiting {p : Passage} {x : Producer} {e : QEntry} {es : List QEntry}
    {ws : List (Producer × List QEntry)} (hroom : p.queue.length < 64) (h : p.waiting = (x, e :: es) :: ws) :
    p.fill = { p with queue := p.queue ++ [e], waiting := if es = [] then ws else ws ++ [(x, es)] } := by
  have hcap : p.queue.length < Config.queueCap := hroom
  unfold Passage.fill
  rw [if_pos hcap, h]
  cases es <;> rfl

/-- R154: the queue after its head has left it, with no write waiting, and with one waiting. -/
theorem Passage.pop_of_no_waiting {p : Passage} (h : p.waiting = []) (rest : List QEntry) :
    (p.pop rest).queue = rest :=
  congrArg Passage.queue (Passage.fill_of_no_waiting
    (p := { p with queue := rest, boundary := p.boundary.map fun n => n - 1, port := p.port.countDown }) h)

theorem Passage.pop_of_waiting {p : Passage} {x : Producer} {e : QEntry} {es : List QEntry}
    {ws : List (Producer × List QEntry)} {rest : List QEntry} (hroom : rest.length < 64)
    (h : p.waiting = (x, e :: es) :: ws) : (p.pop rest).queue = rest ++ [e] :=
  congrArg Passage.queue (Passage.fill_of_waiting
    (p := { p with queue := rest, boundary := p.boundary.map fun n => n - 1, port := p.port.countDown }) hroom h)

/-- Settles O49, by the writes that wait. -/
theorem injectionQueueIsFifo : Obligations.InjectionQueueIsFifo := by
  refine ⟨fun s e rest hfree hqueue hoffered hpurpose => ?_, fun s p e es ws hfree hroom hwaiting => ?_,
    fun s hoffers hstage => ?_⟩
  · obtain ⟨-, -, hoffers⟩ := s.portFree_iff.mp hfree
    have hwrite := State.injectedWrite_of_free hfree hqueue hoffered
    obtain ⟨m, hfetch, hmaps⟩ := State.startFetch_frame
      ((s.setMem (writeWord s.mem (wordBase e.addr) 0xF#4 e.data)).setPass (s.pass.pop rest))
    have htold : s.entryTold e rest = ((s.setMem (writeWord s.mem (wordBase e.addr) 0xF#4 e.data)).setPass
        (s.pass.pop rest)).setMaps m := by
      rw [State.entryTold, ← hfetch]
      rcases hpurpose with h | h | h <;> rw [h] <;> rfl
    rw [htold] at hwrite
    refine ⟨s.injectedWrite, State.done_of_offers_nil (by rw [hwrite]; exact hoffers), ?_⟩
    rw [hwrite]
    refine ⟨rfl, rfl, fun hnone => ?_, fun p e' es ws hroom hwaiting => ?_, fun hstage => hmaps hstage⟩
    · exact Passage.pop_of_no_waiting hnone rest
    · exact Passage.pop_of_waiting hroom hwaiting
  · obtain ⟨hport, hup, hoffers⟩ := s.portFree_iff.mp hfree
    have hfill := Passage.fill_of_waiting hroom hwaiting
    have hplace : s.placeWaiting = s.setPass s.pass.fill :=
      State.resumePort_of_idle (by rw [State.setPass_pass, hfill]; exact hport)
          (by rw [State.setPass_pass, hfill]; exact hup)
    refine ⟨s.placeWaiting, State.done_of_offers_nil (by rw [hplace]; exact hoffers), ?_⟩
    rw [hplace, hfill]
    exact ⟨rfl, rfl⟩
  · have hnot : s.injectedWrite = s := by
      unfold State.injectedWrite State.queueOffered
      rw [hstage]
      split <;> rfl
    have hexec : exec .injectedWriteReachesMemory s = .next s.injectedWrite :=
      State.done_of_offers_nil (by rw [hnot]; exact hoffers)
    rw [hexec, hnot]

end Sys2Proof.Machine
end

section
/-! RECORD reads behind queued writes (R153), and the fetch of a commit (R148, R156, R162). -/

namespace Sys2Proof.Machine

/-! ## The hazard of a RECORD read (R153) -/

theorem lastMatch_of_none {α : Type} {p : α → Bool} : ∀ {l : List α}, (∀ x ∈ l, p x = false) → lastMatch p l = 0
  | [], _ => rfl
  | x :: rest, h => by
    have hrest : lastMatch p rest = 0 := lastMatch_of_none fun y hy => h y (List.mem_cons_of_mem x hy)
    rw [lastMatch, hrest, if_neg (by simp), h x List.mem_cons_self]
    rfl

theorem lastMatch_append {α : Type} {p : α → Bool} {x : α} {after : List α} (hx : p x = true)
    (hafter : ∀ y ∈ after, p y = false) : ∀ before : List α, lastMatch p (before ++ x :: after) = before.length + 1
  | [] => by
    rw [List.nil_append, lastMatch, lastMatch_of_none hafter, if_neg (by simp), if_pos hx]
    rfl
  | y :: before => by
    have hrest := lastMatch_append hx hafter before
    rw [List.cons_append, lastMatch, if_pos (by rw [hrest]; exact Nat.succ_ne_zero _), hrest, List.length_cons]

theorem State.classify_recordRead {s : State} {addr : Addr} {o : Nat} (h : s.region addr = .record o) :
    s.classify (readAccess addr) = s.recordRead (readAccess addr) := by
  simp only [State.classify, readAccess, h]

/-- A queue below 48 entries leaves the port to the host side (R155). -/
theorem State.hostGranted_of_short {s : State} (h : s.pass.queue.length < 48) : s.hostGranted = true := by
  have hno : ¬ Config.starvation ≤ s.pass.queue.length := Nat.not_le.mpr h
  simp [State.hostGranted, hno]

/-- The cycle of a claiming read on a part whose queue is short. -/
theorem State.arbitrate_claimedRead {s : State} {a : Access} (hport : s.pass.port = .claiming ⟨a, none⟩)
    (ha : a.data = none) (h : s.pass.queue.length < 48) :
    s.arbitrate = s.setPort .idle (.read (readWord s.mem (wordBase a.addr))) := by
  rw [State.arbitrate, hport]
  simp only [hostGranted_of_short h, if_true, State.hostCycle, State.memoryCycle, ha]

theorem State.resumePort_of_held {s : State} {a : Access} {left : Nat} (hport : s.pass.port = .heldRecord a left) :
    s.resumePort = s := by
  have harb : s.arbitrate = s := by rw [State.arbitrate, hport]
  have hbusy : s.portIdle = false := by rw [State.portIdle, hport]; rfl
  rw [State.resumePort, harb]
  cases hup : s.pass.upcoming with
  | nil => exact State.present_nil hup
  | cons a rest =>
    rw [State.present, hbusy, ← hup]
    rfl

/-- The whole of the part after a record word has reached memory. -/
theorem State.entryTold_recordWord {s : State} {e : QEntry} (rest : List QEntry) (h : e.purpose = .recordWord) :
    ∃ m, s.entryTold e rest
      = ((s.setMem (writeWord s.mem (wordBase e.addr) 0xF#4 e.data)).setPass (s.pass.pop rest)).setMaps m := by
  obtain ⟨m, hfetch, -⟩ := State.startFetch_frame
    ((s.setMem (writeWord s.mem (wordBase e.addr) 0xF#4 e.data)).setPass (s.pass.pop rest))
  exact ⟨m, by rw [State.entryTold, h, State.reachedMemory, hfetch]⟩

/-- Settles O56: the hazard at the taking, the last entry before it, and every one before that. -/
theorem recordReadWaitsForQueuedWrites : Obligations.RecordReadWaitsForQueuedWrites := by
  refine ⟨fun s addr o hfree hregion => ⟨fun hclear hshort => ?_, fun before after e hqueue he hafter => ?_⟩,
    fun s a e rest hoffers hup hread hport hqueue hoffered hshort hwaiting hpurpose => ?_,
    fun s a left e rest hport hqueue hoffered => ?_⟩
  · obtain ⟨hport, hup, hoffers⟩ := s.portFree_iff.mp hfree
    have hfetch : s.fetchHolds (readAccess addr) = false :=
      State.fetchHolds_of_region fun o' => by rw [readAccess, hregion]; simp
    have hhazard : s.pass.hazard (readAccess addr).addr = 0 :=
      lastMatch_of_none fun e he => beq_eq_false_iff_ne.mpr (hclear e he)
    have hclass := State.classify_recordRead hregion
    rw [State.recordRead, if_pos hhazard] at hclass
    have hcycle := State.arbitrate_claimedRead
      (s := s.setPort (.claiming ⟨readAccess addr, none⟩) .none) (a := readAccess addr) rfl rfl hshort
    have hend : (s.hostAccess (readAccess addr)).done
        = (s.setPort .idle (.read (readWord s.mem (wordBase addr)))).done := by
      rw [State.hostAccess_of_classify hfree hfetch hclass, Access.pass, State.dispose, hcycle]
      exact congrArg State.done
        (State.present_nil (s := s.setPort .idle (.read (readWord s.mem (wordBase addr)))) hup)
    have hexec : exec (.recordRead addr) s = .next (s.setPort .idle (.read (readWord s.mem (wordBase addr)))) :=
      hend.trans (State.done_of_offers_nil hoffers)
    rw [hexec, State.setPort_idle hport]
  · obtain ⟨hport, hup, hoffers⟩ := s.portFree_iff.mp hfree
    have hfetch : s.fetchHolds (readAccess addr) = false :=
      State.fetchHolds_of_region fun o' => by rw [readAccess, hregion]; simp
    have hhazard : s.pass.hazard (readAccess addr).addr = before.length + 1 := by
      rw [Passage.hazard, hqueue]
      exact lastMatch_append (p := fun e : QEntry => wordBase e.addr == wordBase (readAccess addr).addr)
        (beq_iff_eq.mpr he) (fun y hy => beq_eq_false_iff_ne.mpr (hafter y hy)) before
    have hclass := State.classify_recordRead hregion
    rw [State.recordRead, hhazard, if_neg (Nat.succ_ne_zero _)] at hclass
    have hend : (s.hostAccess (readAccess addr)).done
        = (s.setPort (.heldRecord (readAccess addr) (before.length + 1)) .none).done := by
      rw [State.hostAccess_of_classify hfree hfetch hclass]
      exact congrArg State.done
        (State.present_nil (s := s.setPort (.heldRecord (readAccess addr) (before.length + 1)) .none) hup)
    exact hend.trans (State.done_of_offers_nil hoffers)
  · obtain ⟨m, htold⟩ := s.entryTold_recordWord rest hpurpose
    obtain ⟨hp, hu, -, hmem⟩ := s.entryTold_host e rest
    have hclaim : (s.entryTold e rest).pass.port = .claiming ⟨a, none⟩ := by rw [hp, hport]; rfl
    have hlen : (s.entryTold e rest).pass.queue.length < 48 := by
      rw [htold, State.setMaps_pass, State.setPass_pass, Passage.pop_of_no_waiting hwaiting]
      omega
    have hwrite : s.injectedWrite = (s.entryTold e rest).setPort .idle
        (.read (readWord (s.entryTold e rest).mem (wordBase a.addr))) := by
      rw [State.injectedWrite_of_head hqueue hoffered, State.entryReaches_eq, State.resumePort,
        State.arbitrate_claimedRead hclaim hread hlen]
      have hupcoming : ((s.entryTold e rest).setPort .idle
          (.read (readWord (s.entryTold e rest).mem (wordBase a.addr)))).pass.upcoming = [] := hu.trans hup
      rw [hupcoming, State.present_nil hupcoming]
    refine ⟨s.injectedWrite, State.done_of_offers_nil ?_, ?_⟩
    · rw [hwrite, htold]
      exact hoffers
    · rw [hwrite]
      exact ⟨rfl, hmem, rfl⟩
  · obtain ⟨hp, hu, hreply, hmem⟩ := s.entryTold_host e rest
    have hheld : (s.entryTold e rest).pass.port = .heldRecord a (left + 1) := by
      rw [hp, hport, Port.countDown, if_neg (by omega)]
      rfl
    have hwrite : s.injectedWrite = s.entryTold e rest := by
      rw [State.injectedWrite_of_head hqueue hoffered, State.entryReaches_eq, State.resumePort_of_held hheld]
    refine ⟨s.injectedWrite.deliver, rfl, ?_⟩
    rw [State.deliver_pass, State.deliver_mem, hwrite]
    exact ⟨hheld, hmem, hu, hreply⟩

/-! ## The fetch (R156, R162) -/

theorem State.trySwitch_of_ne {s : State} (h : s.maps.stage ≠ .switching) : s.trySwitch = s := by
  rw [State.trySwitch, if_neg fun h' => h h'.1]

theorem State.appendTest_boundary (s : State) : s.appendTest.pass.boundary = s.pass.boundary := by
  obtain ⟨q, w, h⟩ := s.appendTest_pass
  rw [h]

/-- While a commit waits for its fetch, no arrival in memory touches the Map Unit or the boundary. -/
theorem State.reachedMemory_of_waiting {s : State} (h : s.maps.stage = .waiting) (p : Purpose) :
    (s.reachedMemory p).maps = s.maps ∧ (s.reachedMemory p).pass.boundary = s.pass.boundary := by
  cases p with
  | recordWord => exact ⟨rfl, rfl⟩
  | lastSerial => exact ⟨rfl, rfl⟩
  | indexZero => exact ⟨rfl, rfl⟩
  | stamp c => exact ⟨rfl, rfl⟩
  | commitStamp =>
    have hno : s.endCommit = s := by rw [State.endCommit, if_neg (by rw [h]; simp)]
    rw [State.reachedMemory, hno]
    exact ⟨rfl, rfl⟩
  | indexWord =>
    rw [State.reachedMemory, State.endAppend]
    split
    · rw [State.trySwitch_of_ne (by rw [State.setHist_maps, h]; simp), State.appendTest_maps,
        State.appendTest_boundary]
      exact ⟨rfl, rfl⟩
    · exact ⟨rfl, rfl⟩

/-- The last entry before the boundary, in memory: the fetch starts (R162). -/
theorem State.entryTold_of_boundary {s : State} {e : QEntry} {rest : List QEntry} (hstage : s.maps.stage = .waiting)
    (hboundary : s.pass.boundary = some 1) : (s.entryTold e rest).maps = { s.maps with stage := .fetching }
      ∧ (s.entryTold e rest).pass.boundary = some 0 := by
  obtain ⟨q, w, hpop⟩ := s.pass.pop_frame rest
  obtain ⟨hmaps, hb⟩ := State.reachedMemory_of_waiting
    (s := (s.setMem (writeWord s.mem (wordBase e.addr) 0xF#4 e.data)).setPass (s.pass.pop rest)) hstage e.purpose
  have hzero : (((s.setMem (writeWord s.mem (wordBase e.addr) 0xF#4 e.data)).setPass (s.pass.pop rest)).reachedMemory
      e.purpose).pass.boundary = some 0 := by
    rw [hb, State.setPass_pass, hpop, hboundary]
    rfl
  rw [State.entryTold, State.startFetch, if_pos ⟨by rw [hmaps]; exact hstage, hzero⟩, State.setMaps_maps, hmaps]
  exact ⟨rfl, hzero⟩

theorem State.endFetch_of_idle {s : State} (hport : s.pass.port = .idle) (hup : s.pass.upcoming = []) : s.endFetch
    = (s.setMaps { s.maps with stage := .validating }).setPass { s.pass with boundary := none } := by
  rw [State.endFetch, State.releaseFetch_of_idle, State.resumePort_of_idle]
  · exact hport
  · exact hup
  · exact hport

/-- Settles O59: the boundary, the fetch reads, the last of them. -/
theorem fetchFollowsTheBoundary : Obligations.FetchFollowsTheBoundary := by
  refine ⟨fun s e rest hfree hstage hboundary hqueue => ?_, fun s hoffers hstage hmore => ?_,
    fun s hfree hstage hlast => ?_⟩
  · have hoffered : s.queueOffered = true := by simp [State.queueOffered, hstage, hboundary, hqueue]
    have hwrite := State.injectedWrite_of_free hfree hqueue hoffered
    have hstart : s.fetchStarts = s.injectedWrite := by
      rw [State.fetchStarts, if_pos hstage, if_neg (by rw [hboundary]; simp), if_pos hboundary]
    obtain ⟨hmaps, hb⟩ := State.entryTold_of_boundary (e := e) (rest := rest) hstage hboundary
    obtain ⟨-, -, -, hmem⟩ := s.entryTold_host e rest
    refine ⟨s.injectedWrite.deliver, congrArg State.done hstart, rfl, ?_⟩
    rw [State.deliver_mem, State.deliver_maps, State.deliver_pass, hwrite]
    exact ⟨hmem, hmaps, hb⟩
  · have hlen : (s.maps.copy ++ [s.fetchedWord]).length < Config.pageWords := by
      rw [List.length_append]
      exact hmore
    have hstep : s.fetchStep = s.setMaps { s.maps with copy := s.maps.copy ++ [s.fetchedWord] } := by
      rw [State.fetchStep, if_pos hstage]
      exact if_pos hlen
    have hexec : exec .fetchRead s = .next s.fetchStep :=
      State.done_of_offers_nil (by rw [hstep]; exact hoffers)
    rw [hexec, hstep]
    rfl
  · obtain ⟨hport, hup, hoffers⟩ := s.portFree_iff.mp hfree
    have hlen : ¬ (s.maps.copy ++ [s.fetchedWord]).length < Config.pageWords := by
      rw [List.length_append]
      exact fun h => absurd hlast (Nat.ne_of_lt h)
    have hstep : s.fetchStep = (s.setMaps { s.maps with
        stage := .validating, copy := s.maps.copy ++ [s.fetchedWord] }).setPass { s.pass with boundary := none } := by
      rw [State.fetchStep, if_pos hstage]
      refine (if_neg hlen).trans ?_
      exact State.endFetch_of_idle (s := s.setMaps { s.maps with copy := s.maps.copy ++ [s.fetchedWord] }) hport hup
    have hexec : exec .fetchRead s = .next s.fetchStep :=
      State.done_of_offers_nil (by rw [hstep]; exact hoffers)
    rw [hexec, hstep]
    rfl

end Sys2Proof.Machine
end

section
/-! The appender (R118 to R120) and the switch of a commit (R164, R169 to R172, R124, R125). -/

namespace Sys2Proof.Machine

/-! ## Discovery started (R14, R17, R20) -/

/-- R14, R17: the link in discovery, its queue resolved LOST; with no module expected, discovery ends at once and
completes a RESTART LINK with DONE. -/
theorem Link.startDiscovery_eq (l : Link) (m : CellMap) : l.startDiscovery m =
    { link := { l with
        state := if m.modules = 0 then .running else .discovering
        health := 0, found := 0, probes := 0, queue := [], ride := 0, restarted := true
        restart := if m.modules = 0 then false else l.restart
        modules := Vector.replicate 10 Module.powerOn }
      reports := l.queue.map fun p => .resolution p 0xFF
      completion := if m.modules = 0 ∧ l.restart = true then some linkDone else none } := by
  have hdrop : (LinkStep.of l).dropQueue (fun _ => true) = { LinkStep.of l with
      link := { l with queue := [], ride := ((LinkStep.of l).dropQueue fun _ => true).link.ride }
      reports := l.queue.map fun p => .resolution p 0xFF } := by
    simp [LinkStep.dropQueue, LinkStep.of]
  by_cases h : m.modules = 0
  · rw [Link.startDiscovery, hdrop]
    simp only [h, if_true, true_and]
    rw [LinkStep.endDiscovery_of_healthy (by simp)]
    rfl
  · rw [Link.startDiscovery, hdrop]
    simp only [h, if_false, false_and]
    rfl

/-! ## The append test (R118, R120) -/

theorem State.appendTest_of_empty {s : State} (h : s.hist.occupied = 0) : s.appendTest = s := by
  have hno : s.mayAppend = false := by simp [State.mayAppend, h]
  unfold State.appendTest
  rw [hno]
  split <;> rfl

theorem State.mayAppend_of {s : State} (hocc : 1 ≤ s.hist.occupied) (happend : s.hist.append = none)
    (hmapped : s.pass.mapped = true) (hstage : s.maps.stage ≠ .switching) : s.mayAppend = true := by
  simp [State.mayAppend, hocc, happend, hmapped, hstage]

theorem Ring.full_iff (r : Ring) (write : Nat) : r.full write = true ↔ (write + 1) % r.cap = r.read := beq_iff_eq

/-- R118: an append begins. -/
theorem State.appendTest_of_room {s : State} {r : Ring} (hring : s.hist.ring = some r) (hmay : s.mayAppend = true)
    (hroom : (s.hist.write + 1) % r.cap ≠ r.read) : s.appendTest
      = (s.setHist { s.hist with append := some s.hist.write, ringFull := false }).injectAll
        (appendWrites r s.hist.write s.hist.backlog[s.hist.oldest]) := by
  have hfull : ¬ r.full s.hist.write = true := fun h => hroom ((r.full_iff _).mp h)
  rw [State.appendTest, hring]
  simp only [if_pos hmay, if_neg hfull]

/-- R120: a ring-full episode begins, once. -/
theorem State.appendTest_of_full {s : State} {r : Ring} (hring : s.hist.ring = some r) (hmay : s.mayAppend = true)
    (hfull : (s.hist.write + 1) % r.cap = r.read) : s.appendTest
      = if s.hist.ringFull then s
        else (s.setHist { s.hist with ringFull := true }).raise .ringFull 0 (byteOf s.hist.occupied) := by
  rw [State.appendTest, hring]
  simp only [if_pos hmay, if_pos ((r.full_iff _).mpr hfull)]

/-! ## The switch (R171) -/

theorem State.cell_switched (s : State) : (s.setMaps s.maps.switched).cell = pageMap s.maps.copy := rfl

theorem State.switchLink_cases (s : State) (old : CellMap) (first : Bool) :
    s.switchLink old first = s ∨ s.switchLink old first = s.takeLink (s.link.startDiscovery s.cell) := by
  unfold State.switchLink
  split
  · exact .inr rfl
  · exact .inl rfl

@[simp] theorem State.switchLink_time (s : State) (old : CellMap) (first : Bool) :
    (s.switchLink old first).time = s.time := by rcases s.switchLink_cases old first with h | h <;> simp [h]
@[simp] theorem State.switchLink_zones (s : State) (old : CellMap) (first : Bool) :
    (s.switchLink old first).zones = s.zones := by rcases s.switchLink_cases old first with h | h <;> simp [h]
@[simp] theorem State.switchLink_days (s : State) (old : CellMap) (first : Bool) :
    (s.switchLink old first).days = s.days := by rcases s.switchLink_cases old first with h | h <;> simp [h]
@[simp] theorem State.switchLink_seqs (s : State) (old : CellMap) (first : Bool) :
    (s.switchLink old first).seqs = s.seqs := by rcases s.switchLink_cases old first with h | h <;> simp [h]
@[simp] theorem State.switchLink_weigh (s : State) (old : CellMap) (first : Bool) :
    (s.switchLink old first).weigh = s.weigh := by rcases s.switchLink_cases old first with h | h <;> simp [h]
@[simp] theorem State.switchLink_lines (s : State) (old : CellMap) (first : Bool) :
    (s.switchLink old first).lines = s.lines := by rcases s.switchLink_cases old first with h | h <;> simp [h]
@[simp] theorem State.switchLink_hist (s : State) (old : CellMap) (first : Bool) :
    (s.switchLink old first).hist = s.hist := by rcases s.switchLink_cases old first with h | h <;> simp [h]
@[simp] theorem State.switchLink_att (s : State) (old : CellMap) (first : Bool) :
    (s.switchLink old first).att = s.att := by rcases s.switchLink_cases old first with h | h <;> simp [h]
@[simp] theorem State.switchLink_maps (s : State) (old : CellMap) (first : Bool) :
    (s.switchLink old first).maps = s.maps := by rcases s.switchLink_cases old first with h | h <;> simp [h]
@[simp] theorem State.switchLink_mem (s : State) (old : CellMap) (first : Bool) :
    (s.switchLink old first).mem = s.mem := by rcases s.switchLink_cases old first with h | h <;> simp [h]
@[simp] theorem State.switchLink_choice (s : State) (old : CellMap) (first : Bool) :
    (s.switchLink old first).choice = s.choice := by rcases s.switchLink_cases old first with h | h <;> simp [h]
@[simp] theorem State.switchLink_pending (s : State) (old : CellMap) (first : Bool) :
    (s.switchLink old first).pending = s.pending := by rcases s.switchLink_cases old first with h | h <;> simp [h]

theorem State.switchLink_pass (s : State) (old : CellMap) (first : Bool) :
    ∃ q w, (s.switchLink old first).pass = { s.pass with queue := q, waiting := w } := by
  rcases s.switchLink_cases old first with h | h
  · exact ⟨s.pass.queue, s.pass.waiting, by rw [h]⟩
  · rw [h]
    exact s.takeLink_pass _

/-- With no RESTART LINK pending, a switch completes none, and places no stamp. -/
theorem State.switchLink_pass_of_no_restart {s : State} (h : s.link.restart = false) (old : CellMap) (first : Bool) :
    (s.switchLink old first).pass = s.pass := by
  rcases s.switchLink_cases old first with hl | hl
  · rw [hl]
  · have hnone : (s.link.startDiscovery s.cell).completion = none := by simp [Link.startDiscovery_eq, h]
    rw [hl, State.takeLink_of_no_completion hnone]
    rfl

/-- With an empty detail-fetch queue, a switch reports no module. -/
theorem State.switchLink_offers_of_no_queue {s : State} (h : s.link.queue = []) (old : CellMap) (first : Bool) :
    (s.switchLink old first).offers = s.offers := by
  rcases s.switchLink_cases old first with hl | hl <;> simp [hl, Link.startDiscovery_eq, h]

theorem Zone.switch_keeps (z : Zone) (old new : ZoneEntry) :
    (z.switch old new).request = z.request ∧ (z.switch old new).applied = z.applied := by
  simp only [Zone.switch]
  split_ifs <;> exact ⟨rfl, rfl⟩

theorem Line.switch_latch (l : Line) (old new : LineEntry) : (l.switch old new).latch = l.latch := by
  unfold Line.switch
  split_ifs <;> rfl

/-! ## The writes of a switch (R125, R154, R171) -/

/-- A write stands in the queue or waits for it. -/
def Passage.Holds (p : Passage) (e : QEntry) : Prop := e ∈ p.queue ∨ ∃ w ∈ p.waiting, e ∈ w.2

theorem Passage.place_holds (p : Passage) (e : QEntry) : (p.place e).Holds e := by
  unfold Passage.place
  split
  · next h =>
    obtain ⟨w, hw, hprod⟩ := List.any_eq_true.mp h
    refine .inr ⟨(w.1, w.2 ++ [e]), List.mem_map.mpr ⟨w, hw, if_pos (beq_iff_eq.mp hprod)⟩, by simp⟩
  · split
    · exact .inl (by simp)
    · exact .inr ⟨_, List.mem_append_right _ (List.mem_singleton.mpr rfl), by simp⟩

theorem Passage.place_keeps_holds {p : Passage} {x : QEntry} (h : p.Holds x) (e : QEntry) : (p.place e).Holds x := by
  unfold Passage.place
  rcases h with hq | ⟨w, hw, hx⟩
  · split
    · exact .inl hq
    · split
      · exact .inl (List.mem_append_left _ hq)
      · exact .inl hq
  · split
    · refine .inr ⟨_, List.mem_map_of_mem hw, ?_⟩
      split
      · exact List.mem_append_left _ hx
      · exact hx
    · split
      · exact .inr ⟨w, hw, hx⟩
      · exact .inr ⟨w, List.mem_append_left _ hw, hx⟩

theorem Passage.placeAll_keeps_holds {x : QEntry} : ∀ (es : List QEntry) {p : Passage},
    p.Holds x → (p.placeAll es).Holds x
  | [], _, h => h
  | e :: es, _, h => placeAll_keeps_holds es (place_keeps_holds h e)

theorem Passage.placeAll_holds {x : QEntry} : ∀ {es : List QEntry} (p : Passage), x ∈ es → (p.placeAll es).Holds x
  | e :: es, p, h => by
    rcases List.mem_cons.mp h with rfl | hes
    · exact placeAll_keeps_holds es (p.place_holds x)
    · exact placeAll_holds (p.place e) hes

theorem State.appendTest_keeps_holds {s : State} {x : QEntry} (h : s.pass.Holds x) : s.appendTest.pass.Holds x := by
  unfold State.appendTest
  split
  · exact h
  · split
    · split
      · split
        · exact h
        · exact h
      · rw [State.injectAll_pass]
        exact Passage.placeAll_keeps_holds _ h
    · exact h

theorem Passage.place_mapped (p : Passage) (b : Bool) (e : QEntry) :
    ({ p with mapped := b } : Passage).place e = { p.place e with mapped := b } := by
  unfold Passage.place
  split
  · rfl
  · split <;> rfl

/-- Whether windows are mapped does not bear on the placing of writes. -/
theorem Passage.placeAll_mapped (b : Bool) : ∀ (es : List QEntry) (p : Passage),
    ({ p with mapped := b } : Passage).placeAll es = { p.placeAll es with mapped := b }
  | [], _ => rfl
  | e :: es, p => by
    have h := placeAll_mapped b es (p.place e)
    rw [← p.place_mapped b e] at h
    exact h

/-- R125: when a write of 0 to the write-index word is called for. -/
theorem zeroesIndex_iff (old new : CellMap) (first : Bool) (writeIndex : Nat) :
    zeroesIndex old new first writeIndex = true ↔ (first = true ∧ new.ringCap ≤ writeIndex)
      ∨ (first = false ∧ (new.ringBase ≠ old.ringBase ∨ new.ringCap ≠ old.ringCap)) := by
  cases first <;> simp [zeroesIndex, CellMap.movesRing]

/-- R125: the write index in effect after the switch. -/
theorem switchedWrite_eq (old new : CellMap) (first : Bool) (writeIndex kept : Nat) :
    switchedWrite old new first writeIndex kept
      = if first then (if new.ringCap ≤ writeIndex then 0 else writeIndex)
        else if new.ringBase ≠ old.ringBase ∨ new.ringCap ≠ old.ringCap then 0 else kept := by
  cases first with
  | true => simp [switchedWrite, zeroesIndex]
  | false => simp [switchedWrite, zeroesIndex, CellMap.movesRing]

/-! ## What a switch leaves -/

/-- The part at the switch, before COMMIT ACCEPTED and the append test. -/
def State.switchPlaced (s : State) : State :=
  (((s.setMaps s.maps.switched).switchBlocks s.cell s.maps.first s.maps.copy).switchLink s.cell
    s.maps.first).injectAll (switchWrites s.maps s.cell)

theorem State.switchMap_eq (s : State) : s.switchMap
    = (s.switchPlaced.raise .commitAccepted 0 (s.maps.commitGen.extractLsb' 0 8)).appendTest := rfl

theorem State.switchPlaced_maps (s : State) : s.switchPlaced.maps = s.maps.switched := by
  simp [State.switchPlaced, State.switchBlocks, State.cell_switched]
theorem State.switchPlaced_days (s : State) : s.switchPlaced.days = s.days := by
  simp [State.switchPlaced, State.switchBlocks, State.cell_switched]
theorem State.switchPlaced_seqs (s : State) : s.switchPlaced.seqs = s.seqs := by
  simp [State.switchPlaced, State.switchBlocks, State.cell_switched]
theorem State.switchPlaced_mem (s : State) : s.switchPlaced.mem = s.mem := by
  simp [State.switchPlaced, State.switchBlocks, State.cell_switched]
theorem State.switchPlaced_choice (s : State) : s.switchPlaced.choice = s.choice := by
  simp [State.switchPlaced, State.switchBlocks, State.cell_switched]
theorem State.switchPlaced_hist (s : State) :
    s.switchPlaced.hist = s.hist.switch s.cell (pageMap s.maps.copy) s.maps.first s.maps.copy := by
  simp [State.switchPlaced, State.switchBlocks, State.cell_switched]
theorem State.switchPlaced_att (s : State) : s.switchPlaced.att = { s.att with mask := pageMask s.maps.copy } := by
  simp [State.switchPlaced, State.switchBlocks, State.cell_switched]
theorem State.switchPlaced_weigh (s : State) :
    s.switchPlaced.weigh = s.weigh.switch s.cell (pageMap s.maps.copy) s.maps.first := by
  simp [State.switchPlaced, State.switchBlocks, State.cell_switched]
theorem State.switchPlaced_zones (s : State) :
    s.switchPlaced.zones = Vector.ofFn fun z => s.zones[z].switch s.cell.zones[z] (pageMap s.maps.copy).zones[z] := by
  simp [State.switchPlaced, State.switchBlocks, State.cell_switched]
theorem State.switchPlaced_lines (s : State) :
    s.switchPlaced.lines = Vector.ofFn fun n => s.lines[n].switch s.cell.lines[n] (pageMap s.maps.copy).lines[n] := by
  simp [State.switchPlaced, State.switchBlocks, State.cell_switched]

end Sys2Proof.Machine
end

section
/-! The statements on appends (R118 to R120) and on the commit's decision, switch and stamp (R164, R169 to R172). -/

namespace Sys2Proof.Machine

/-! ## What the switch gives its units -/

/-- The passage at the switch: MAPPED, its latches kept. -/
theorem State.switchPlaced_pass (s : State) :
    ∃ q w, s.switchPlaced.pass = { s.pass with mapped := true, queue := q, waiting := w } := by
  obtain ⟨q, w, hlink⟩ := ((s.setMaps s.maps.switched).switchBlocks s.cell s.maps.first s.maps.copy).switchLink_pass
    s.cell s.maps.first
  obtain ⟨q', w', hplace⟩ := State.injectAll_queue
    (((s.setMaps s.maps.switched).switchBlocks s.cell s.maps.first s.maps.copy).switchLink s.cell s.maps.first)
    (switchWrites s.maps s.cell)
  refine ⟨q', w', ?_⟩
  rw [State.switchPlaced, hplace, hlink]
  simp [State.switchBlocks]

theorem State.switchMap_pass (s : State) :
    ∃ q w, s.switchMap.pass = { s.pass with mapped := true, queue := q, waiting := w } := by
  obtain ⟨q, w, hplaced⟩ := s.switchPlaced_pass
  obtain ⟨q', w', htest⟩ := State.appendTest_pass
    (s.switchPlaced.raise .commitAccepted 0 (s.maps.commitGen.extractLsb' 0 8))
  exact ⟨q', w', by rw [State.switchMap_eq, htest, State.raise_pass, hplaced]⟩

/-- With an empty backlog the append test at the switch does nothing. -/
theorem State.switchMap_of_empty {s : State} (h : s.hist.occupied = 0) : s.switchMap
    = s.switchPlaced.raise .commitAccepted 0 (s.maps.commitGen.extractLsb' 0 8) := by
  rw [State.switchMap_eq, State.appendTest_of_empty]
  rw [State.raise_hist, State.switchPlaced_hist]
  exact h

/-- R124, R125: the History Unit after the switch, but for an append that it may begin. -/
theorem State.switchMap_hist (s : State) :
    s.switchMap.hist.counter = max s.hist.counter (max (pageFloor s.maps.copy)
        (min 0xFFFFFFFF (pageLastSerial s.maps.copy + 1)))
      ∧ s.switchMap.hist.ring = some ⟨(pageMap s.maps.copy).ringBase, (pageMap s.maps.copy).ringCap,
          pageReadIndex s.maps.copy⟩
      ∧ s.switchMap.hist.write = switchedWrite s.cell (pageMap s.maps.copy) s.maps.first (pageWriteIndex s.maps.copy)
          s.hist.write
      ∧ s.switchMap.hist.occupied = s.hist.occupied ∧ s.switchMap.hist.oldest = s.hist.oldest
      ∧ s.switchMap.hist.backlog = s.hist.backlog ∧ s.switchMap.hist.reserved = s.hist.reserved := by
  rw [State.switchMap_eq]
  simp only [State.appendTest_hist_counter, State.appendTest_hist_ring, State.appendTest_hist_write,
    State.appendTest_hist_occupied, State.appendTest_hist_oldest, State.appendTest_hist_backlog,
    State.appendTest_hist_reserved, State.raise_hist, State.switchPlaced_hist]
  exact ⟨rfl, rfl, rfl, rfl, rfl, rfl, rfl⟩

/-! ## Appends (R118 to R120) -/

/-- The History Unit when the index word of the append to slot `w` of ring `r` reaches memory (R119). -/
def History.appended (h : History) (r : Ring) (w : Nat) : History :=
  { h with
    write := (w + 1) % r.cap
    occupied := h.occupied - 1
    oldest := nextPosition h.oldest
    append := none }

theorem State.endAppend_of_append {s : State} {r : Ring} {w : Nat} (hring : s.hist.ring = some r)
    (happend : s.hist.append = some w) :
    s.endAppend = ((s.setHist (s.hist.appended r w)).trySwitch).appendTest := by
  rw [State.endAppend, hring, happend]
  rfl

/-- The first part of O50: the append test on an idle appender. -/
theorem appendBegin_outcomes {s : State} {r : Ring} (hoffers : s.offers = []) (hring : s.hist.ring = some r)
    (hocc : 1 ≤ s.hist.occupied) (happend : s.hist.append = none) (hmapped : s.pass.mapped = true)
    (hstage : s.maps.stage ≠ .switching) :
    ((s.hist.write + 1) % r.cap ≠ r.read → exec .appendBegin s = .next { s with
        hist := { s.hist with append := some s.hist.write, ringFull := false }
        pass := s.pass.placeAll (appendWrites r s.hist.write s.hist.backlog[s.hist.oldest]) })
      ∧ ((s.hist.write + 1) % r.cap = r.read → s.hist.ringFull = false → exec .appendBegin s = .next { s with
        hist := { s.hist with ringFull := true }
        att := s.att.offer .ringFull 0 (byteOf s.hist.occupied) })
      ∧ ((s.hist.write + 1) % r.cap = r.read → s.hist.ringFull = true → exec .appendBegin s = .next s) := by
  have hmay := State.mayAppend_of hocc happend hmapped hstage
  have hexec : exec .appendBegin s = s.appendTest.done := rfl
  refine ⟨fun hroom => ?_, fun hfull hnew => ?_, fun hfull hold => ?_⟩
  · rw [hexec, State.appendTest_of_room hring hmay hroom]
    exact State.done_of_offers_nil hoffers
  · rw [hexec, State.appendTest_of_full hring hmay hfull, hnew]
    have hone : ((s.setHist { s.hist with ringFull := true }).raise .ringFull 0 (byteOf s.hist.occupied)).offers
        = [.cause .ringFull 0 (byteOf s.hist.occupied)] := by simp [hoffers]
    simp only [Bool.false_eq_true, if_false]
    rw [State.done, State.deliver_single hone]
    exact congrArg Host.Outcome.next (by rw [← hoffers]; rfl)
  · rw [hexec, State.appendTest_of_full hring hmay hfull, hold]
    exact State.done_of_offers_nil hoffers

/-- The rows that name the arrival of the index word at the queue's head. -/
theorem State.indexWord_rows {s : State} {e : QEntry} {rest : List QEntry} (hqueue : s.pass.queue = e :: rest)
    (hoffered : s.queueOffered = true) (hpurpose : e.purpose = .indexWord) :
    s.purposeReaches .indexWord = s.injectedWrite := by
  rw [← hpurpose]
  exact State.purposeReaches_of_head hqueue hoffered

/-- The second part of O50: the end of an append with no commit switching. -/
theorem appendEnd_outcome {s : State} {e : QEntry} {rest : List QEntry} {r : Ring} {w : Nat}
    (hfree : s.portFree = true) (hqueue : s.pass.queue = e :: rest) (hoffered : s.queueOffered = true)
    (hpurpose : e.purpose = .indexWord) (hring : s.hist.ring = some r) (happend : s.hist.append = some w)
    (hstage : s.maps.stage ≠ .switching) :
    ∃ t, exec .appendEnd s = .next t ∧ exec .injectedWriteReachesMemory s = .next t
      ∧ t = { s with mem := t.mem, hist := t.hist, att := t.att, pass := t.pass, maps := t.maps }
      ∧ t.mem = writeWord s.mem (wordBase e.addr) 0xF#4 e.data
      ∧ t.hist.ring = some r ∧ t.hist.write = (w + 1) % r.cap
      ∧ t.hist.occupied = s.hist.occupied - 1 ∧ t.hist.oldest = s.hist.oldest + 1
      ∧ t.hist.backlog = s.hist.backlog ∧ t.hist.reserved = s.hist.reserved
      ∧ (s.hist.occupied ≤ 1 → t.hist.append = none) := by
  obtain ⟨-, -, hoffers⟩ := s.portFree_iff.mp hfree
  have hwrite := State.injectedWrite_of_free hfree hqueue hoffered
  generalize hs0 : (s.setMem (writeWord s.mem (wordBase e.addr) 0xF#4 e.data)).setPass (s.pass.pop rest) = s0
  have hhist : s0.hist = s.hist := by rw [← hs0]; rfl
  obtain ⟨m, hfetch, -⟩ := State.startFetch_frame ((s0.setHist (s0.hist.appended r w)).appendTest)
  have htold : s.entryTold e rest = ((s0.setHist (s0.hist.appended r w)).appendTest).setMaps m := by
    rw [State.entryTold, hs0, hpurpose, State.reachedMemory, State.endAppend_of_append (by rw [hhist, hring])
      (by rw [hhist, happend]), State.trySwitch_of_ne (by rw [← hs0]; exact hstage), hfetch]
  have hoff0 : s0.offers = [] := by rw [← hs0]; exact hoffers
  have hshort : (s.entryTold e rest).offers.length ≤ 1 := by
    rcases (s0.setHist (s0.hist.appended r w)).appendTest_offers with h | ⟨n, h⟩ <;>
      simp [htold, h, hoff0]
  refine ⟨s.injectedWrite.deliver, congrArg State.done (State.indexWord_rows hqueue hoffered hpurpose), rfl, ?_⟩
  have hchoice : s.injectedWrite.deliver.choice = s.choice := by
    rw [hwrite, State.deliver_choice_of_le hshort, htold, ← hs0]
    simp
  have hthist : s.injectedWrite.deliver.hist = ((s0.setHist (s.hist.appended r w)).appendTest).hist := by
    rw [State.deliver_hist, hwrite, htold, State.setMaps_hist, hhist]
  obtain ⟨-, -, -, hmem⟩ := s.entryTold_host e rest
  refine ⟨?_, ?_, ?_, ?_, ?_, ?_, ?_, ?_, fun hlast => ?_⟩
  · apply State.ext_fields <;> simp [hwrite, htold, ← hs0, hoffers]
    simpa [hwrite, htold, ← hs0] using hchoice
  · rw [State.deliver_mem, hwrite, hmem]
  all_goals rw [hthist]
  · rw [State.appendTest_hist_ring]; exact hring
  · rw [State.appendTest_hist_write]; rfl
  · rw [State.appendTest_hist_occupied]; rfl
  · rw [State.appendTest_hist_oldest]; rfl
  · rw [State.appendTest_hist_backlog]; rfl
  · rw [State.appendTest_hist_reserved]; rfl
  · rw [State.appendTest_of_empty]
    · rfl
    · exact Nat.sub_eq_zero_of_le hlast

/-- The third part of O50: the commit switches as the append ends. -/
theorem appendEnd_switches {s : State} {e : QEntry} {rest : List QEntry} {r : Ring} {w : Nat}
    (hfree : s.portFree = true) (hqueue : s.pass.queue = e :: rest) (hpurpose : e.purpose = .indexWord)
    (hring : s.hist.ring = some r) (happend : s.hist.append = some w) (hstage : s.maps.stage = .switching) :
    ∃ t, exec .appendEnd s = .next t ∧ exec .injectedWriteReachesMemory s = .next t ∧ exec .commitSwitch s = .next t
      ∧ t.mem = writeWord s.mem (wordBase e.addr) 0xF#4 e.data
      ∧ t.maps = s.maps.switched ∧ t.pass.mapped = true
      ∧ t.hist.occupied = s.hist.occupied - 1 ∧ t.hist.oldest = s.hist.oldest + 1
      ∧ t.hist.backlog = s.hist.backlog ∧ t.hist.reserved = s.hist.reserved
      ∧ t.hist.ring = some ⟨(pageMap s.maps.copy).ringBase, (pageMap s.maps.copy).ringCap, pageReadIndex s.maps.copy⟩
      ∧ t.hist.write = switchedWrite s.cell (pageMap s.maps.copy) s.maps.first (pageWriteIndex s.maps.copy)
          ((w + 1) % r.cap)
      ∧ (s.hist.occupied ≤ 1 → t.hist.append = none) := by
  have hoffered : s.queueOffered = true := State.queueOffered_of_stage hqueue (by simp [hstage]) (by simp [hstage])
  have hrow := State.indexWord_rows hqueue hoffered hpurpose
  have hcommit : s.switches = s.injectedWrite := by
    rw [State.switches, hstage]
    simp only [happend, Option.isNone_some, Bool.false_eq_true, if_false]
    exact hrow
  have hwrite := State.injectedWrite_of_free hfree hqueue hoffered
  generalize hs0 : (s.setMem (writeWord s.mem (wordBase e.addr) 0xF#4 e.data)).setPass (s.pass.pop rest) = s0
  have hhist : s0.hist = s.hist := by rw [← hs0]; rfl
  have hmaps0 : s0.maps = s.maps := by rw [← hs0]; rfl
  generalize hu : s0.setHist (s0.hist.appended r w) = u
  have humaps : u.maps = s.maps := by rw [← hu]; exact hmaps0
  have hucell : u.cell = s.cell := State.cell_of_maps humaps
  have huhist : u.hist = s.hist.appended r w := by rw [← hu, State.setHist_hist, hhist]
  have hswitch : u.trySwitch = u.switchMap := by
    rw [State.trySwitch, if_pos ⟨by rw [humaps, hstage], by rw [huhist]; rfl⟩]
  have hmaps : u.switchMap.appendTest.maps = s.maps.switched := by
    rw [State.appendTest_maps, State.switchMap_eq, State.appendTest_maps, State.raise_maps, State.switchPlaced_maps,
      humaps]
  have htold : s.entryTold e rest = u.switchMap.appendTest := by
    rw [State.entryTold, hs0, hpurpose, State.reachedMemory, State.endAppend_of_append (by rw [hhist, hring])
      (by rw [hhist, happend]), hu, hswitch, State.startFetch_of_ne (by rw [hmaps]; simp [MapUnit.switched])]
  obtain ⟨-, -, -, hmem⟩ := s.entryTold_host e rest
  obtain ⟨-, hsring, hswrite, hsocc, hsold, hsback, hsres⟩ := u.switchMap_hist
  refine ⟨s.injectedWrite.deliver, congrArg State.done hrow, rfl, congrArg State.done hcommit, ?_⟩
  simp only [State.deliver_mem, State.deliver_maps, State.deliver_pass, State.deliver_hist, hwrite, hmem]
  rw [htold, hmaps, State.appendTest_hist_occupied, State.appendTest_hist_oldest, State.appendTest_hist_backlog,
    State.appendTest_hist_reserved, State.appendTest_hist_ring, State.appendTest_hist_write, hsring, hswrite, hsocc,
    hsold, hsback, hsres, huhist, humaps, hucell]
  refine ⟨trivial, rfl, ?_, rfl, rfl, rfl, rfl, rfl, rfl, fun hlast => ?_⟩
  · obtain ⟨q, w, hp⟩ := u.switchMap.appendTest_pass
    obtain ⟨q', w', hp'⟩ := u.switchMap_pass
    rw [hp, hp']
  · have hzero : u.hist.occupied = 0 := by rw [huhist]; exact Nat.sub_eq_zero_of_le hlast
    rw [State.appendTest_of_empty (hsocc.trans hzero), State.switchMap_of_empty hzero, State.raise_hist,
      State.switchPlaced_hist, huhist]
    rfl

/-- Settles O50: an append begins, ends, or ends with the switch that waited for it. -/
theorem appendsBeginAndEnd : Obligations.AppendsBeginAndEnd := by
  refine ⟨fun s r hoffers hring hocc happend hmapped hstage =>
      appendBegin_outcomes hoffers hring hocc happend hmapped hstage,
    fun s e rest r w hfree hqueue hoffered hpurpose hring happend hstage =>
      appendEnd_outcome hfree hqueue hoffered hpurpose hring happend hstage,
    fun s e rest r w hfree hqueue hpurpose hring happend hstage => ?_⟩
  obtain ⟨t, h1, h2, h3, hmem, hmaps, hmapped, hocc, hold, hback, hres, hring', hwrite, hlast⟩ :=
    appendEnd_switches hfree hqueue hpurpose hring happend hstage
  refine ⟨t, h1, h2, h3, hmem, hmaps, hmapped, hocc, hold, hback, hres, hring', ?_, hlast⟩
  rw [hwrite, switchedWrite_eq]
  simp only [← not_and_or, ne_eq, ite_not]

end Sys2Proof.Machine
end

section
/-! The commit's decision, switch and stamp (R164, R169 to R172, R124, R125, R136, R142). -/

namespace Sys2Proof.Machine

/-! ## The decision (R169, R170) -/

theorem State.decideCommit_of_refused {s : State} {reason : CommitReason} (hstage : s.maps.stage = .validating)
    (hrefusal : s.refusal = some reason) : s.decideCommit = s.refuseCommit reason := by
  rw [State.decideCommit, if_pos hstage, hrefusal]

theorem State.decideCommit_of_accepted {s : State} (hstage : s.maps.stage = .validating) (hrefusal : s.refusal = none) :
    s.decideCommit = (s.setMaps { s.maps with stage := .switching }).trySwitch := by
  rw [State.decideCommit, if_pos hstage, hrefusal]

/-- With an empty backlog a refusal queues its stamp and offers COMMIT REFUSED, and no append begins. -/
theorem State.refuseCommit_of_empty {s : State} (h : s.hist.occupied = 0) (reason : CommitReason) :
    s.refuseCommit reason = ((s.setMaps { s.maps with stage := .stamping, copy := [] }).inject
      (s.maps.stamp reason.code 0x50)).raise .commitRefused 0 reason.code :=
  State.appendTest_of_empty h

/-- The first part of O60: a refused copy. -/
theorem validationDecision_refused {s : State} {reason : CommitReason} (hstage : s.maps.stage = .validating)
    (hrefusal : s.refusal = some reason) :
    ∃ t, exec .validationDecision s = .next t
      ∧ t = { s with
          maps := { s.maps with stage := .stamping, copy := [] }, hist := t.hist, att := t.att, pass := t.pass
          offers := t.offers, choice := t.choice }
      ∧ (s.offers = [] → s.hist.occupied = 0 →
          t.pass = s.pass.place ⟨mapAddr 0x018, commitWord s.maps.commitGen reason.code 0x50, .commitStamp⟩
            ∧ t.att = s.att.offer .commitRefused 0 reason.code) := by
  have hdecide := State.decideCommit_of_refused hstage hrefusal
  refine ⟨s.decideCommit.deliver, rfl, ?_, fun hoffers hempty => ?_⟩
  · apply State.ext_fields <;> simp [hdecide, State.refuseCommit]
  · rw [hdecide, State.refuseCommit_of_empty hempty]
    refine ⟨State.deliver_pass _, ?_⟩
    rw [State.deliver_single (r := .cause .commitRefused 0 reason.code) (by simp [hoffers])]
    simp [Attention.take]

/-- The second part of O60: an accepted copy waits for the append in progress. -/
theorem validationDecision_waits {s : State} {w : Nat} (hoffers : s.offers = []) (hstage : s.maps.stage = .validating)
    (hrefusal : s.refusal = none) (happend : s.hist.append = some w) :
    exec .validationDecision s = .next { s with maps := { s.maps with stage := .switching } } := by
  have hdecide : s.decideCommit = s.setMaps { s.maps with stage := .switching } := by
    rw [State.decideCommit_of_accepted hstage hrefusal, State.trySwitch, if_neg fun h => ?_]
    rw [State.setMaps_hist, happend] at h
    exact absurd h.2 (by simp)
  exact (congrArg State.done hdecide).trans (State.done_of_offers_nil hoffers)

theorem State.switches_of_switching {s : State} (hstage : s.maps.stage = .switching) (happend : s.hist.append = none) :
    s.switches = s.switchMap := by
  rw [State.switches, hstage]
  simp only [happend, Option.isNone_none, if_true]
  rw [State.trySwitch, if_pos ⟨hstage, happend⟩]

/-- The third part of O60: with no append in progress the decision is the switch. -/
theorem validationDecision_switches {s : State} (hstage : s.maps.stage = .validating) (hrefusal : s.refusal = none)
    (happend : s.hist.append = none) :
    ∃ t, exec .validationDecision s = .next t ∧ exec .commitSwitch s = .next t
      ∧ exec .commitSwitch { s with maps := { s.maps with stage := .switching } } = .next t := by
  have hdecide : s.decideCommit = (s.setMaps { s.maps with stage := .switching }).switchMap := by
    rw [State.decideCommit_of_accepted hstage hrefusal, State.trySwitch, if_pos ⟨rfl, happend⟩]
  have hswitches : s.switches = s.decideCommit := by
    rw [State.switches, hstage]
    simp only [hrefusal, happend, Option.isNone_none, Bool.and_self, if_true]
  have hlater : (s.setMaps { s.maps with stage := .switching }).switches = s.decideCommit :=
    (State.switches_of_switching (s := s.setMaps { s.maps with stage := .switching }) rfl happend).trans hdecide.symm
  exact ⟨s.decideCommit.deliver, rfl, congrArg State.done hswitches, congrArg State.done hlater⟩

/-! ## The switch (R171) -/

/-- DONE for the commit word is queued, or waits for the queue, after the switch. -/
theorem State.switchMap_holds_stamp (s : State) : s.switchMap.pass.Holds (s.maps.stamp 0 0x02) := by
  rw [State.switchMap_eq]
  apply State.appendTest_keeps_holds
  rw [State.raise_pass, State.switchPlaced, State.injectAll_pass]
  exact Passage.placeAll_holds _ (by simp [switchWrites])

/-- With no RESTART LINK pending and an empty backlog, the switch places its own writes and no other. -/
theorem State.switchMap_pass_of_quiet {s : State} (hrestart : s.link.restart = false) (hempty : s.hist.occupied = 0) :
    s.switchMap.pass = { s.pass.placeAll (switchWrites s.maps s.cell) with mapped := true } := by
  have hblocks : ((s.setMaps s.maps.switched).switchBlocks s.cell s.maps.first s.maps.copy).link = s.link := by
    simp [State.switchBlocks]
  rw [State.switchMap_of_empty hempty, State.raise_pass, State.switchPlaced, State.injectAll_pass,
    State.switchLink_pass_of_no_restart (by rw [hblocks]; exact hrestart)]
  exact Passage.placeAll_mapped true _ s.pass

/-- With nothing pending or waiting, COMMIT ACCEPTED is the one report of the switch. -/
theorem State.switchMap_offers_of_quiet {s : State} (hoffers : s.offers = []) (hqueue : s.link.queue = [])
    (hempty : s.hist.occupied = 0) :
    s.switchMap.offers = [.cause .commitAccepted 0 (s.maps.commitGen.extractLsb' 0 8)] := by
  have hblocks : ((s.setMaps s.maps.switched).switchBlocks s.cell s.maps.first s.maps.copy).link = s.link := by
    simp [State.switchBlocks]
  rw [State.switchMap_of_empty hempty, State.raise_offers, State.switchPlaced, State.injectAll_offers,
    State.switchLink_offers_of_no_queue (by rw [hblocks]; exact hqueue)]
  simp [State.switchBlocks, hoffers]

theorem State.switchMap_zone (s : State) (z : Fin 40) :
    s.switchMap.zones[z].request = s.zones[z].request ∧ s.switchMap.zones[z].applied = s.zones[z].applied := by
  have hzones : s.switchMap.zones
      = Vector.ofFn fun z => s.zones[z].switch s.cell.zones[z] (pageMap s.maps.copy).zones[z] := by
    rw [State.switchMap_eq, State.appendTest_zones, State.raise_zones, State.switchPlaced_zones]
  rw [hzones, getElem_ofFn_fin]
  exact Zone.switch_keeps _ _ _

theorem State.switchMap_latch (s : State) (n : Fin 32) : s.switchMap.lines[n].latch = s.lines[n].latch := by
  have hlines : s.switchMap.lines
      = Vector.ofFn fun n => s.lines[n].switch s.cell.lines[n] (pageMap s.maps.copy).lines[n] := by
    rw [State.switchMap_eq, State.appendTest_lines, State.raise_lines, State.switchPlaced_lines]
  rw [hlines, getElem_ofFn_fin]
  exact Line.switch_latch _ _ _

theorem State.switchMap_charges (s : State) : s.switchMap.weigh.charges = s.weigh.charges := by
  rw [State.switchMap_eq, State.appendTest_weigh, State.raise_weigh, State.switchPlaced_weigh]
  rfl

theorem Attention.foldl_take_mask (rs : List Report) : ∀ a : Attention, (rs.foldl Attention.take a).mask = a.mask := by
  induction rs with
  | nil => exact fun a => rfl
  | cons r rs ih => exact fun a => (ih (a.take r)).trans (a.take_mask r)

/-- Delivering reports keeps the mask (R136). -/
theorem State.deliver_mask (s : State) : s.deliver.att.mask = s.att.mask := by
  unfold State.deliver
  split
  · rfl
  · exact s.att.take_mask _
  · exact Attention.foldl_take_mask _ s.att

/-! ## The stamp's arrival (R172) -/

theorem commitStampReachesMemory_ends {s : State} {e : QEntry} {rest : List QEntry} (hfree : s.portFree = true)
    (hstage : s.maps.stage = .stamping) (hqueue : s.pass.queue = e :: rest) (hpurpose : e.purpose = .commitStamp) :
    ∃ t, exec .commitStampReachesMemory s = .next t ∧ exec .injectedWriteReachesMemory s = .next t
      ∧ t.mem = writeWord s.mem (wordBase e.addr) 0xF#4 e.data
      ∧ t.maps = { s.maps with stage := .idle, copy := [] } := by
  have hoffered : s.queueOffered = true := State.queueOffered_of_stage hqueue (by simp [hstage]) (by simp [hstage])
  have hrow := State.purposeReaches_of_head hqueue hoffered
  rw [hpurpose] at hrow
  have hwrite := State.injectedWrite_of_free hfree hqueue hoffered
  obtain ⟨-, -, -, hmem⟩ := s.entryTold_host e rest
  generalize hs0 : (s.setMem (writeWord s.mem (wordBase e.addr) 0xF#4 e.data)).setPass (s.pass.pop rest) = s0
  have hmaps0 : s0.maps = s.maps := by rw [← hs0]; rfl
  have hended : s0.endCommit = (s0.setMaps { s.maps with stage := .idle, copy := [] }).appendTest := by
    rw [State.endCommit, if_pos (by rw [hmaps0, hstage]), hmaps0]
  have hmaps : (s.entryTold e rest).maps = { s.maps with stage := .idle, copy := [] } := by
    rw [State.entryTold, hs0, hpurpose, State.reachedMemory, hended, State.startFetch_of_ne (by simp)]
    simp
  refine ⟨s.injectedWrite.deliver, congrArg State.done hrow, rfl, ?_⟩
  rw [State.deliver_mem, State.deliver_maps, hwrite]
  exact ⟨hmem, hmaps⟩

/-- Settles O60, a part at a time: refused, accepted behind an append, accepted, switched, stamped. -/
theorem commitsAreDecidedSwitchedAndStamped : Obligations.CommitsAreDecidedSwitchedAndStamped := by
  refine ⟨fun s reason hstage hrefusal => validationDecision_refused hstage hrefusal,
    fun s w hoffers hstage hrefusal happend => validationDecision_waits hoffers hstage hrefusal happend,
    fun s hstage hrefusal happend => validationDecision_switches hstage hrefusal happend,
    fun s hstage happend => ?_,
    fun s e rest hfree hstage hqueue hpurpose => commitStampReachesMemory_ends hfree hstage hqueue hpurpose⟩
  have hmaps : s.switchMap.maps = s.maps.switched := by
    rw [State.switchMap_eq, State.appendTest_maps, State.raise_maps, State.switchPlaced_maps]
  have hatt : s.switchMap.att = { s.att with mask := pageMask s.maps.copy } := by
    rw [State.switchMap_eq, State.appendTest_att, State.raise_att, State.switchPlaced_att]
  obtain ⟨hcounter, hring, hwrite, -⟩ := s.switchMap_hist
  obtain ⟨q, w, hpass⟩ := s.switchMap_pass
  refine ⟨s.switchMap.deliver, congrArg State.done (State.switches_of_switching hstage happend), ?_⟩
  simp only [State.deliver_maps, State.deliver_pass, State.deliver_zones, State.deliver_lines, State.deliver_days,
    State.deliver_seqs, State.deliver_weigh, State.deliver_mem, State.deliver_hist]
  refine ⟨by rw [hmaps]; rfl, by rw [hpass], by rw [hpass], ?_, s.switchMap_zone, s.switchMap_latch, ?_, ?_,
    s.switchMap_charges, ?_, hcounter, hring, ?_, s.switchMap_holds_stamp, fun hrestart hempty => ?_,
    fun hoffers hqueue hempty => ?_⟩
  · rw [State.deliver_mask, hatt]
  · rw [State.switchMap_eq, State.appendTest_days, State.raise_days, State.switchPlaced_days]
  · rw [State.switchMap_eq, State.appendTest_seqs, State.raise_seqs, State.switchPlaced_seqs]
  · rw [State.switchMap_eq, State.appendTest_mem, State.raise_mem, State.switchPlaced_mem]
  · rw [hwrite, switchedWrite_eq]
  · rw [State.switchMap_pass_of_quiet hrestart hempty, switchWrites]
    simp only [zeroesIndex_iff]
    rfl
  · rw [State.deliver_single (State.switchMap_offers_of_quiet hoffers hqueue hempty), State.setOffers_att,
      State.setAtt_att, hatt]
    rfl

end Sys2Proof.Machine
end

section
/-! The taking of a command (R152, R176, R178), for every owner. -/

namespace Sys2Proof.Machine

/-! ## The write of a command word -/

/-- A command write that passes the BUSY test claims the port with its owner's outcome in byte 3 (R152, R176). -/
theorem State.takeAccess_command {s u : State} {w : CommandWrite} {c : Fin 10} {code outcome : Byte}
    (harr : s.commandArrives w c = true) (hbusy : s.channelBusy c code = false)
    (hdec : s.ownerDecision c ⟨code, w.tag, w.argument, w.addr⟩ = (outcome, u)) :
    s.takeAccess (commandAccess code w) = u.setPort (.claiming
      ⟨⟨w.addr, w.enables, some (wordOf code w.tag w.argument outcome)⟩,
        if outcome = 0x01 then some c else none⟩) .none := by
  obtain ⟨-, hen, o, hreg, hchan⟩ := (s.commandArrives_iff w c).mp harr
  have hcode : wordByte (commandWord code w) 0 = code := wordByte_zero_wordOf ..
  have hclass : s.classify (commandAccess code w) = s.channelWrite (commandAccess code w) c (commandWord code w) := by
    simp [State.classify, commandAccess, hreg, State.commandWrite, hchan, hen]
  have hfetch : s.fetchHolds (commandAccess code w) = false := State.fetchHolds_of_command hreg w.enables _
  rw [State.takeAccess, hfetch, hclass, State.channelWrite, hcode, hbusy, stampOf_commandWord,
    show (commandAccess code w).addr = w.addr from rfl, hdec]
  simp only [commandWord, withOutcome_wordOf, Bool.false_eq_true, if_false]
  rfl

/-- A command that its owner settles at once, with what reports it has: the command word passes under the owner's
outcome, and the state is as the owner leaves it (R152, R176, R177). -/
theorem State.commandAccess_passes {s u : State} {w : CommandWrite} {c : Fin 10} {code outcome : Byte}
    (harr : s.commandArrives w c = true) (hidle : s.chans[c].phase = .idle)
    (hdec : s.ownerDecision c ⟨code, w.tag, w.argument, w.addr⟩ = (outcome, u)) (hout : outcome ≠ 0x01)
    (hpass : ∃ q l, u.pass = { s.pass with queue := q, waiting := l }) (hmem : u.mem = s.mem) :
    ∃ t, (s.hostAccess (commandAccess code w)).done = .next t
      ∧ t = { u.deliver with pass := t.pass, mem := t.mem }
      ∧ t.wordPassed s w.addr w.enables (wordOf code w.tag w.argument outcome) ∧ t.queueKept u := by
  obtain ⟨⟨hport, hup, hoffers⟩, -⟩ := (s.commandArrives_iff w c).mp harr
  have htake := State.takeAccess_command harr (State.channelBusy_of_idle hidle code) hdec
  rw [if_neg hout] at htake
  obtain ⟨q, l, hq⟩ := hpass
  obtain ⟨t, hexec, hframe, hword, hqueue⟩ := State.claimedWrite_delivers (u := u) (by rw [hq]; exact hup) w.addr
    w.enables (wordOf code w.tag w.argument outcome)
  rw [State.hostAccess_idle _ hport hup hoffers, htake]
  exact ⟨t, hexec, hframe, State.wordPassed_of_queue ⟨q, l, hq⟩ hmem hword, hqueue⟩

/-! ## A timed command (R178) -/

/-- Placing a stamp marks its channel's record and places a write; a running channel has none to place. -/
theorem State.placeStamp_record (s : State) (c : Fin 10) :
    ∃ placed q l, s.placeStamp c = (s.setChan c { s.chans[c] with placed := placed }).setPass
        { s.pass with queue := q, waiting := l }
      ∧ (s.chans[c].phase = .running → placed = s.chans[c].placed ∧ q = s.pass.queue ∧ l = s.pass.waiting) := by
  have hself : s = (s.setChan c s.chans[c]).setPass s.pass := by
    have hset : s.chans.set c s.chans[c] = s.chans := by simp
    rw [State.setChan, hset]
    rfl
  simp only [State.placeStamp]
  split
  · next w code _ _ =>
    split
    · next h =>
      obtain ⟨q, l, hplace, -⟩ := s.pass.place_spec ⟨w.addr, wordOf w.code w.tag w.argument code, .stamp c⟩
      refine ⟨true, q, l, ?_, fun hrun => absurd (h.1.symm.trans hrun) (by decide)⟩
      rw [State.inject, State.setChan_pass, hplace]
    · exact ⟨s.chans[c].placed, s.pass.queue, s.pass.waiting, hself, fun _ => ⟨rfl, rfl, rfl⟩⟩
  · exact ⟨s.chans[c].placed, s.pass.queue, s.pass.waiting, hself, fun _ => ⟨rfl, rfl, rfl⟩⟩

/-- The write of a timed command has reached memory: its channel's record says so. -/
theorem State.commandReached_record {s : State} {c : Fin 10} (h : s.chans[c].phase ≠ .idle) :
    ∃ placed q l, s.commandReached c = (s.setChan c { s.chans[c] with written := true, placed := placed }).setPass
        { s.pass with queue := q, waiting := l }
      ∧ (s.chans[c].phase = .running → placed = s.chans[c].placed ∧ q = s.pass.queue ∧ l = s.pass.waiting) := by
  have hself : (s.setChan c { s.chans[c] with written := true }).chans[c] = { s.chans[c] with written := true } := by
    rw [State.setChan_chans, getElem_set_self_fin]
  obtain ⟨placed, q, l, hplace, hrun⟩ := (s.setChan c { s.chans[c] with written := true }).placeStamp_record c
  rw [hself] at hplace hrun
  refine ⟨placed, q, l, ?_, hrun⟩
  rw [State.commandReached, if_neg h, hplace]
  simp only [State.setChan, State.setChans, Vector.set_set]

/-- The delivery of the reports reads the Attention Unit, the reports and the free choice alone. -/
theorem State.deliver_of_record (s : State) (m : Memory) (ch : Vector Channel 10) (p : Passage) :
    (((s.setMem m).setChans ch).setPass p).deliver = ((s.deliver.setMem m).setChans ch).setPass p := by
  cases hoffers : s.offers with
  | nil => rw [State.deliver_nil hoffers, State.deliver_nil (by simp [hoffers])]
  | cons r rs =>
    cases rs with
    | nil =>
      rw [State.deliver_single hoffers, State.deliver_single (r := r) (by simp [hoffers])]
      rfl
    | cons r' rs =>
      simp only [State.deliver, State.setPass_offers, State.setChans_offers, State.setMem_offers, hoffers]
      rfl

/-- The write of a timed command: it passes, and its channel is told when it has reached memory. A running channel
places nothing. -/
theorem State.timedWrite_delivers {u : State} {c : Fin 10} (hup : u.pass.upcoming = [])
    (hphase : u.chans[c].phase ≠ .idle) (hwritten : u.chans[c].written = false) (addr : Addr) (enables : Enables)
    (data : Word) :
    ∃ t placed, ((u.setPort (.claiming ⟨⟨addr, enables, some data⟩, some c⟩) .none).arbitrate.present []).done = .next t
      ∧ t = { u.deliver with pass := t.pass, mem := t.mem, chans := t.chans }
      ∧ t.wordPassed u addr enables data
      ∧ t.chans = u.chans.set c { u.chans[c] with written := t.portIdle, placed := placed }
      ∧ (u.chans[c].phase = .running → placed = u.chans[c].placed ∧ t.queueKept u) := by
  have harb : (u.setPort (.claiming ⟨⟨addr, enables, some data⟩, some c⟩) .none).arbitrate
      = if u.hostGranted then
          ((u.setMem (writeWord u.mem (wordBase addr) enables data)).setPort .idle .wrote).commandReached c
        else u.setPort (.claiming ⟨⟨addr, enables, some data⟩, some c⟩) .none := rfl
  rw [harb]
  cases hgrant : u.hostGranted with
  | true =>
    obtain ⟨placed, q, l, hreach, hrun⟩ := State.commandReached_record
      (s := (u.setMem (writeWord u.mem (wordBase addr) enables data)).setPort .idle .wrote) hphase
    have hstate : ((u.setMem (writeWord u.mem (wordBase addr) enables data)).setPort .idle .wrote).commandReached c
        = ((u.setMem (writeWord u.mem (wordBase addr) enables data)).setChans
            (u.chans.set c { u.chans[c] with written := true, placed := placed })).setPass
          { u.pass with port := .idle, reply := .wrote, queue := q, waiting := l } := hreach
    refine ⟨_, placed, rfl, ?_⟩
    simp only [if_true]
    rw [hstate, State.present_nil (by exact hup), State.deliver_of_record]
    exact ⟨rfl, ⟨.inl ⟨rfl, rfl, rfl⟩, rfl⟩, rfl, fun h => ⟨(hrun h).1, (hrun h).2.1, (hrun h).2.2⟩⟩
  | false =>
    have hfull := starvation_le_of_not_hostGranted hgrant
    have hkept : u.chans.set c { u.chans[c] with written := false, placed := u.chans[c].placed } = u.chans := by
      have hself : u.chans.set c u.chans[c] = u.chans := by simp
      rw [← hwritten]
      exact hself
    have hstate : u.setPort (.claiming ⟨⟨addr, enables, some data⟩, some c⟩) .none
        = ((u.setMem u.mem).setChans u.chans).setPass
          { u.pass with port := .claiming ⟨⟨addr, enables, some data⟩, some c⟩, reply := .none } := rfl
    refine ⟨_, u.chans[c].placed, rfl, ?_⟩
    simp only [Bool.false_eq_true, if_false]
    rw [hstate, State.present_nil (by exact hup), State.deliver_of_record]
    exact ⟨rfl, ⟨.inr ⟨hfull, rfl, some c, rfl⟩, rfl⟩, hkept.symm, fun _ => ⟨trivial, rfl, rfl⟩⟩

/-- A command that its owner carries out with ACCEPTED (R176, R178). -/
theorem State.commandAccess_starts {s u : State} {w : CommandWrite} {c : Fin 10} {code : Byte}
    (harr : s.commandArrives w c = true) (hbusy : s.channelBusy c code = false)
    (hdec : s.ownerDecision c ⟨code, w.tag, w.argument, w.addr⟩ = (0x01, u))
    (hpass : ∃ q l, u.pass = { s.pass with queue := q, waiting := l }) (hmem : u.mem = s.mem)
    (hphase : u.chans[c].phase ≠ .idle) (hwritten : u.chans[c].written = false) :
    ∃ t placed, (s.hostAccess (commandAccess code w)).done = .next t
      ∧ t = { u.deliver with pass := t.pass, mem := t.mem, chans := t.chans }
      ∧ t.wordPassed s w.addr w.enables (wordOf code w.tag w.argument 0x01)
      ∧ t.chans = u.chans.set c { u.chans[c] with written := t.portIdle, placed := placed }
      ∧ (u.chans[c].phase = .running → placed = u.chans[c].placed ∧ t.queueKept u) := by
  obtain ⟨⟨hport, hup, hoffers⟩, -⟩ := (s.commandArrives_iff w c).mp harr
  have htake := State.takeAccess_command harr hbusy hdec
  rw [if_pos rfl] at htake
  obtain ⟨q, l, hq⟩ := hpass
  obtain ⟨t, placed, hexec, hframe, hword, hchans, hrun⟩ := State.timedWrite_delivers (u := u) (c := c)
    (by rw [hq]; exact hup) hphase hwritten w.addr w.enables (wordOf code w.tag w.argument 0x01)
  rw [State.hostAccess_idle _ hport hup hoffers, htake]
  exact ⟨t, placed, hexec, hframe, State.wordPassed_of_queue ⟨q, l, hq⟩ hmem hword, hchans, hrun⟩

end Sys2Proof.Machine
end

section
/-! The commands that are settled at once: LOAD, SCRAP and MANUAL RELEASE, OPEN CHARGE and CLOSE CHARGE (R45 to R48,
R62 to R64, R78 to R84). -/

namespace Sys2Proof.Machine

/-! ## What the owners decide -/

theorem channelOwner_dayChannel (d : Fin 4) : channelOwner (dayChannel d) = .daylight d := by
  simp [channelOwner, dayChannel]

theorem State.ownerDecision_day (s : State) (d : Fin 4) (w : Stamp) :
    s.ownerDecision (dayChannel d) w = s.dayCommand d w := by
  rw [State.ownerDecision, channelOwner_dayChannel]

theorem State.ownerDecision_head (s : State) (h : Fin 4) (w : Stamp) :
    s.ownerDecision (headChannel h) w = s.headCommand h w := by
  rw [State.ownerDecision, channelOwner_headChannel]

theorem Weigh.freeSlot_of_lowest {w : Weigh} {i : Fin 6} (hfree : w.charges[i].state = .free)
    (hlow : ∀ j : Fin 6, j < i → w.charges[j].state ≠ .free) : w.freeSlot = some i := by
  rw [Weigh.freeSlot, List.find?_eq_some_iff_getElem]
  refine ⟨beq_iff_eq.mpr hfree, i.val, by simp, by simp, fun j hj => ?_⟩
  have hne := hlow ⟨j, by omega⟩ hj
  simpa using hne

/-! ## OPEN CHARGE and CLOSE CHARGE (R78 to R84, R88) -/

theorem State.openCharge_of_ready {s : State} {h : Fin 4} {i : Fin 6} {r : Fin 16} {weight : Int}
    (hready : s.weigh.heads[h].state = .ready) (hallowed : s.openAllowed h = true)
    (hvalid : s.cell.recipes[r].valid = true) (hheld : s.weigh.heads[h].held = none)
    (hsettled : s.settled h = some weight)
    (hslot : s.weigh.freeSlot = some i) :
    s.openCharge h r.val = (0x02, s.openSlot h i r.val s.cell.recipes[r] weight) := by
  have hrecipe : s.cell.recipe? r.val = some s.cell.recipes[r] := by simp [CellMap.recipe?]
  unfold State.openCharge
  rw [if_neg (by rw [hready]; decide), if_neg (by rw [hallowed]; decide), if_neg (by rw [hready]; decide), hrecipe]
  simp only [hvalid, Bool.true_eq_false, if_false, hheld, Option.isSome_none, Bool.false_eq_true, hsettled, hslot]

/-- Settles O36: the owner passes every check and opens the lowest slot, with no report. -/
theorem openChargeTakesTheLowestFreeSlot : Obligations.OpenChargeTakesTheLowestFreeSlot := by
  intro s w h i r weight harr hidle hready hallowed harg hvalid hheld hsettled hfree hlow
  have hdec : s.ownerDecision (headChannel h) ⟨codeOpenCharge, w.tag, w.argument, w.addr⟩
      = (0x02, s.openSlot h i r.val s.cell.recipes[r] weight) := by
    rw [State.ownerDecision_head]
    change s.openCharge h w.argument.toNat = _
    rw [harg]
    exact State.openCharge_of_ready hready hallowed hvalid hheld hsettled (Weigh.freeSlot_of_lowest hfree hlow)
  obtain ⟨t, hexec, hframe, hword, hqueue⟩ := State.commandAccess_settles harr hidle hdec (by decide) rfl rfl rfl
  have hweigh : t.weigh = (s.openSlot h i r.val s.cell.recipes[r] weight).weigh := by rw [hframe]
  refine ⟨t, hexec, ?_, hword, hqueue, hweigh⟩
  rw [hweigh]
  exact hframe

/-- The part after the judgement of a charge, its report apart (R84). -/
def State.chargeJudged (s : State) (h : Fin 4) (i : Fin 6) : State :=
  (s.setCharge i { s.weigh.charges[i] with
    state := if s.weigh.charges[i].judge = .none then .complete else .rejected
    reason := s.weigh.charges[i].judge
    completed := s.time }).setHead h { s.weigh.heads[h] with held := none }

/-- The report of the judgement (R84). -/
def ChargeSlot.judgement (c : ChargeSlot) (i : Fin 6) : Report :=
  if c.judge = .none then .cause .chargeComplete (byteOf i.val) (byteOf c.plies.length)
  else .cause .chargeRejected (byteOf i.val) c.judge.code

theorem Attention.take_judgement (a : Attention) (c : ChargeSlot) (i : Fin 6) : a.take (c.judgement i)
    = if c.judge = .none then a.offer .chargeComplete (byteOf i.val) (byteOf c.plies.length)
      else a.offer .chargeRejected (byteOf i.val) c.judge.code := by
  unfold ChargeSlot.judgement
  split <;> rfl

theorem State.judgeCharge_eq (s : State) (h : Fin 4) (i : Fin 6) :
    s.judgeCharge h i = (s.chargeJudged h i).report [s.weigh.charges[i].judgement i] := by
  by_cases hjudge : s.weigh.charges[i].judge = .none
  · simp only [State.judgeCharge, ChargeSlot.judgement, State.chargeJudged, if_pos hjudge]
    rfl
  · simp only [State.judgeCharge, ChargeSlot.judgement, State.chargeJudged, if_neg hjudge]
    rfl

/-- The judgement touches the Weigh Channel alone, besides its report. -/
theorem State.chargeJudged_report (s : State) (h : Fin 4) (i : Fin 6) (r : Report) :
    (((s.chargeJudged h i).report [r]).setAtt (((s.chargeJudged h i).report [r]).att.take r)).setOffers []
      = { s with weigh := (s.chargeJudged h i).weigh, att := s.att.take r, offers := [] } := rfl

/-- Settles O37: the judgement's one report is taken as the step ends. -/
theorem closeChargeJudges : Obligations.CloseChargeJudges := by
  intro s w h i harr hidle henabled hheld c reason
  obtain ⟨⟨-, -, hoffers⟩, -⟩ := (s.commandArrives_iff w _).mp harr
  have hdec : s.ownerDecision (headChannel h) ⟨codeCloseCharge, w.tag, w.argument, w.addr⟩
      = (0x02, s.judgeCharge h i) := by
    rw [State.ownerDecision_head]
    change s.closeCharge h = _
    rw [State.closeCharge, if_neg henabled, hheld]
  rw [State.judgeCharge_eq] at hdec
  obtain ⟨t, hexec, hframe, hword, hqueue⟩ := State.commandAccess_passes harr hidle hdec (by decide)
    ⟨s.pass.queue, s.pass.waiting, rfl⟩ rfl
  have hone : ((s.chargeJudged h i).report [s.weigh.charges[i].judgement i]).offers
      = [s.weigh.charges[i].judgement i] := by
    change s.offers ++ _ = _
    rw [hoffers]
    rfl
  rw [State.deliver_single hone, State.chargeJudged_report] at hframe
  have hweigh : t.weigh = (s.chargeJudged h i).weigh := by rw [hframe]
  have hatt : t.att = s.att.take (s.weigh.charges[i].judgement i) := by rw [hframe]
  refine ⟨t, hexec, ?_, hword, hqueue, hweigh, ?_⟩
  · rw [hweigh, hatt, hoffers]
    exact hframe
  · exact hatt.trans (s.att.take_judgement s.weigh.charges[i] i)

/-! ## LOAD (R45 to R48, R122, R123) -/

theorem State.loadDecision_of_ready {s : State} {d : Fin 4} {i : Fin 6} (hallowed : s.loadAllowed d = true)
    (hvacant : s.days[d].state = .vacant) (hclosed : s.level (.closed d) = false)
    (hcomplete : s.weigh.charges[i].state = .complete) (hzero : s.hist.counter ≠ 0)
    (hlast : s.hist.counter ≠ 0xFFFFFFFF) : s.loadDecision d i.val = (0x02, s.carryLoad d i) := by
  have hserial : s.hist.noSerial = false := by simp [History.noSerial, hzero, hlast]
  unfold State.loadDecision State.loadSlot
  rw [if_neg (by rw [hallowed]; decide), if_neg (by rw [hvacant]; decide), dif_pos i.isLt,
    if_neg (by rw [hclosed]; decide), if_neg (by rw [hcomplete]; decide), if_neg (by rw [hcomplete]; decide),
    if_neg (by rw [hserial]; decide)]

/-- Settles O30: the owner's work, and the last-serial word placed in the queue. -/
theorem loadOpensTheRecord : Obligations.LoadOpensTheRecord := by
  intro s w d i harr hidle hallowed hvacant harg hclosed hcomplete hzero hlast
  obtain ⟨⟨-, -, hoffers⟩, -⟩ := (s.commandArrives_iff w _).mp harr
  have hdec : s.ownerDecision (dayChannel d) ⟨codeLoad, w.tag, w.argument, w.addr⟩ = (0x02, s.carryLoad d i) := by
    rw [State.ownerDecision_day]
    change s.loadDecision d w.argument.toNat = _
    rw [harg]
    exact State.loadDecision_of_ready hallowed hvacant hclosed hcomplete hzero hlast
  obtain ⟨q, l, hplace, -⟩ := s.pass.place_spec (lastSerialWrite s.hist.counter)
  obtain ⟨t, hexec, hframe, hword, hqueue⟩ := State.commandAccess_passes harr hidle hdec (by decide)
    ⟨q, l, hplace⟩ rfl
  rw [State.deliver_nil (s := s.carryLoad d i) hoffers] at hframe
  have hdays : t.days = (s.carryLoad d i).days := by rw [hframe]
  have hweigh : t.weigh = (s.carryLoad d i).weigh := by rw [hframe]
  have hhist : t.hist = (s.carryLoad d i).hist := by rw [hframe]
  refine ⟨t, hexec, ?_, hword, hhist, hdays, ?_, fun k hk => ?_, ?_, ?_, hqueue.1⟩
  · rw [hdays, hweigh, hhist]
    exact hframe
  · rw [hweigh]; rfl
  · rw [hweigh]
    exact (State.freeCharge_heads _ i k).trans (if_neg hk)
  · rw [hweigh]; rfl
  · rw [hweigh]; rfl

/-! ## SCRAP and MANUAL RELEASE (R45, R62 to R64, R115) -/

theorem History.mayReserve_of_lt {h : History} (hroom : h.occupied + h.reserved < 4) : h.mayReserve = true :=
  decide_eq_true hroom

theorem State.scrapDecision_of_room {s : State} {d : Fin 4} (henabled : s.dayEnabled d = true)
    (hstate : s.days[d].state.scrappable = true) (hroom : s.hist.occupied + s.hist.reserved < 4) :
    s.scrapDecision d = (0x02, s.reserve.closeRecord d .scrapped) := by
  rw [State.scrapDecision, if_neg (by rw [henabled]; decide), if_neg (by rw [hstate]; decide),
    if_neg (by rw [History.mayReserve_of_lt hroom]; decide)]

theorem State.manualDecision_of_room {s : State} {d : Fin 4} (henabled : s.dayEnabled d = true)
    (hstate : s.days[d].state = .faulted) (hroom : s.hist.occupied + s.hist.reserved < 4) :
    s.manualDecision d = (0x02, s.reserve.closeRecord d .manual) := by
  rw [State.manualDecision, if_neg (by rw [henabled]; decide), if_neg (by rw [hstate]; decide),
    if_neg (by rw [History.mayReserve_of_lt hroom]; decide)]

theorem State.closeRecord_hist_of_record {s : State} {d : Fin 4} {r : OpenRecord} (h : s.days[d].record = some r)
    (o : RecordOutcome) : ∃ x f, (s.closeRecord d o).hist = { s.hist.take
      (recordBytes d s.days[d] r o s.time s.maps.generation) with append := x, ringFull := f } := by
  obtain ⟨x, f, q, l, rs, hspec⟩ := ((s.setHist (s.hist.take
    (recordBytes d s.days[d] r o s.time s.maps.generation))).setDay d s.days[d].closed).appendTest_spec
  exact ⟨x, f, by rw [State.closeRecord_of_record h, hspec]; rfl⟩

/-- A command whose owner closes the open record of an enabled daylight with a fresh reservation. -/
theorem recordClosed_of_decision {s : State} {w : CommandWrite} {d : Fin 4} {r : OpenRecord} {code : Byte}
    {outcome : RecordOutcome} (harr : s.commandArrives w (dayChannel d) = true)
    (hidle : s.chans[dayChannel d].phase = .idle) (hrecord : s.days[d].record = some r)
    (hdec : s.ownerDecision (dayChannel d) ⟨code, w.tag, w.argument, w.addr⟩ =
        (0x02, s.reserve.closeRecord d outcome)) :
    ∃ t, (s.hostAccess (commandAccess code w)).done = .next t
      ∧ t = { s with days := t.days, hist := t.hist, att := t.att, pass := t.pass, mem := t.mem }
      ∧ t.wordPassed s w.addr w.enables (wordOf code w.tag w.argument 0x02)
      ∧ t.days = s.days.set d { s.days[d] with state := .vacant, record := none, reserved := false }
      ∧ t.hist.backlog = s.hist.backlog.set s.hist.fill
          (recordBytes d s.days[d] r outcome s.time s.maps.generation)
      ∧ t.hist.fill = s.hist.fill + 1 ∧ t.hist.occupied = s.hist.occupied + 1
      ∧ t.hist.reserved = s.hist.reserved ∧ t.hist.oldest = s.hist.oldest
      ∧ t.hist.counter = s.hist.counter ∧ t.hist.ring = s.hist.ring ∧ t.hist.write = s.hist.write := by
  obtain ⟨⟨-, -, hoffers⟩, -⟩ := (s.commandArrives_iff w _).mp harr
  have hrecord' : s.reserve.days[d].record = some r := hrecord
  have hclose := State.closeRecord_of_record hrecord' outcome
  generalize hu : s.reserve.closeRecord d outcome = u at hdec
  have hpass : ∃ q l, u.pass = { s.pass with queue := q, waiting := l } := by
    rw [← hu, hclose]
    exact State.appendTest_pass _
  obtain ⟨t, hexec, hframe, hword, -⟩ := State.commandAccess_passes harr hidle hdec (by decide) hpass
    (by rw [← hu]; simp [State.reserve])
  have hshort : u.offers.length ≤ 1 := by
    rw [← hu, hclose]
    rcases State.appendTest_offers ((s.reserve.setHist (s.reserve.hist.take
      (recordBytes d s.reserve.days[d] r outcome s.reserve.time s.reserve.maps.generation))).setDay d
        s.reserve.days[d].closed) with h | ⟨n, h⟩ <;> rw [h] <;> simp [State.reserve, hoffers]
  have hchoice : u.deliver.choice = s.choice := by
    rw [State.deliver_choice_of_le hshort, ← hu]
    simp [State.reserve]
  have hdeliver : u.deliver = { s with
      days := u.deliver.days, hist := u.deliver.hist, att := u.deliver.att, pass := u.deliver.pass } := by
    apply State.ext_fields <;> simp only [hchoice]
    all_goals simp [← hu, State.reserve, hoffers]
  have hdays : t.days = s.days.set d { s.days[d] with state := .vacant, record := none, reserved := false } := by
    have hset := State.closeRecord_days hrecord' outcome
    rw [hu] at hset
    rw [hframe]
    exact (State.deliver_days u).trans hset
  obtain ⟨x, f, hhist⟩ := State.closeRecord_hist_of_record hrecord' outcome
  have hthist : t.hist = u.hist := by rw [hframe]; exact State.deliver_hist u
  rw [hu] at hhist
  refine ⟨t, hexec, ?_, hword, hdays, ?_⟩
  · have hparts : t.days = u.deliver.days ∧ t.hist = u.deliver.hist ∧ t.att = u.deliver.att := by
      rw [hframe]
      exact ⟨rfl, rfl, rfl⟩
    rw [hparts.1, hparts.2.1, hparts.2.2]
    rw [hdeliver] at hframe
    exact hframe
  · rw [hthist, hhist]
    exact ⟨rfl, rfl, rfl, Nat.add_sub_cancel .., rfl, rfl, rfl, rfl⟩

/-- Settles O33: both commands end in the close of the record. -/
theorem scrapAndManualReleaseCloseTheRecord : Obligations.ScrapAndManualReleaseCloseTheRecord := by
  intro s w d r harr hidle henabled hrecord hroom c code outcome hcases
  rcases hcases with ⟨rfl, rfl, rfl, hstate⟩ | ⟨rfl, rfl, rfl, hstate⟩
  · have hscrap : s.days[d].state.scrappable = true := by
      rcases hstate with h | h | h | h | h <;> rw [h] <;> rfl
    refine recordClosed_of_decision harr hidle hrecord ?_
    rw [State.ownerDecision_day]
    exact State.scrapDecision_of_room henabled hscrap hroom
  · refine recordClosed_of_decision harr hidle hrecord ?_
    rw [State.ownerDecision_day]
    exact State.manualDecision_of_room henabled hstate hroom

end Sys2Proof.Machine
end

section
/-! The timed commands: DEMOULD, ABORT and RESTART LINK (R14, R17, R21, R57 to R61, R100 to R106, R178, R179). -/

namespace Sys2Proof.Machine

/-! ## DEMOULD (R57, R58, R100, R101) -/

theorem State.demouldDecision_of_ready {s : State} {d : Fin 4} (henabled : s.dayEnabled d = true)
    (hcured : s.days[d].state = .cured) (hclosed : s.level (.closed d) = false) (hstop : s.level .cellStop = false)
    (hejected : s.level (.ejected d) = false) (hroom : s.hist.occupied + s.hist.reserved < 4) (stamp : Stamp) :
    s.demouldDecision d stamp = (0x01, s.carryDemould d stamp) := by
  unfold State.demouldDecision
  rw [if_neg (by rw [henabled]; decide), if_neg (by rw [hcured]; decide), if_neg (by rw [hclosed]; decide),
    if_neg (by rw [hstop]; decide), if_neg (by rw [hejected]; decide),
    if_neg (by rw [History.mayReserve_of_lt hroom]; decide)]

theorem State.startStroke_eq (s : State) (d : Fin 4) : s.startStroke d
    = s.setSeqs (s.seqs.set d ⟨.extending, s.days[d].recipe.stroke, s.days[d].recipe.retries, s.days[d].recipe.dwell, 1,
      .none, .none, some (s.time + BitVec.ofNat 32 s.days[d].recipe.stroke)⟩) := by
  simp [State.startStroke, State.enterExtending, State.setSeq, State.after, State.setSeqs]

/-- The part after a DEMOULD that passes its checks. -/
theorem State.carryDemould_eq (s : State) (d : Fin 4) (stamp : Stamp) : s.carryDemould d stamp = { s with
    chans := s.chans.set (dayChannel d) ⟨.running, some stamp, false, none, false, false⟩
    hist := { s.hist with reserved := s.hist.reserved + 1 }
    days := s.days.set d { s.days[d] with state := .demoulding, reserved := true }
    seqs := s.seqs.set d ⟨.extending, s.days[d].recipe.stroke, s.days[d].recipe.retries, s.days[d].recipe.dwell, 1,
      .none, .none, some (s.time + BitVec.ofNat 32 s.days[d].recipe.stroke)⟩ } := by
  have hday : (((s.startTimed (dayChannel d) stamp).reserve).setDay d
      { s.days[d] with state := .demoulding, reserved := true }).days[d]
      = { s.days[d] with state := .demoulding, reserved := true } := getElem_set_self_fin ..
  rw [State.carryDemould, State.startStroke_eq, hday]
  rfl

/-- Settles O31: the channel runs, and is told when the command's own write has reached memory. -/
theorem demouldStartsTheStroke : Obligations.DemouldStartsTheStroke := by
  intro s w d harr hidle henabled hcured hclosed hstop hejected hroom
  obtain ⟨⟨-, -, hoffers⟩, -⟩ := (s.commandArrives_iff w _).mp harr
  have hdec : s.ownerDecision (dayChannel d) ⟨codeDemould, w.tag, w.argument, w.addr⟩
      = (0x01, s.carryDemould d ⟨codeDemould, w.tag, w.argument, w.addr⟩) := by
    rw [State.ownerDecision_day]
    exact State.demouldDecision_of_ready henabled hcured hclosed hstop hejected hroom _
  rw [State.carryDemould_eq] at hdec
  generalize hrun : (⟨.running, some ⟨codeDemould, w.tag, w.argument, w.addr⟩, false, none, false, false⟩ : Channel)
    = running at hdec
  have hchan : (s.chans.set (dayChannel d) running)[dayChannel d] = running := getElem_set_self_fin ..
  obtain ⟨t, placed, hexec, hframe, hword, hchans, hkept⟩ := State.commandAccess_starts harr
    (State.channelBusy_of_idle hidle _) hdec ⟨s.pass.queue, s.pass.waiting, rfl⟩ rfl
    (by rw [hchan, ← hrun]; simp) (by rw [hchan, ← hrun])
  rw [hchan] at hchans hkept
  obtain ⟨hplaced, hqueue⟩ := hkept (by rw [← hrun])
  rw [State.deliver_nil (by exact hoffers)] at hframe
  have hseqs := congrArg State.seqs hframe
  have hdays := congrArg State.days hframe
  have hhist := congrArg State.hist hframe
  refine ⟨t, hexec, ?_, hword, hqueue, hhist, hdays, hseqs, ?_, ?_⟩
  · rw [hseqs, hdays, hhist]
    exact hframe
  · rw [hseqs, getElem_set_self_fin]
    rfl
  · rw [hchans, hplaced, Vector.set_set, ← hrun]
    rfl

/-! ## A completion ahead of the command's own write (R178) -/

/-- A completion known before the command has reached memory places no stamp. -/
theorem State.complete_of_unwritten {s : State} {c : Fin 10} (hrun : s.chans[c].phase = .running)
    (hwritten : s.chans[c].written = false) (code : Byte) :
    s.complete c code = s.setChan c { s.chans[c] with phase := .stamping, completion := some code } := by
  rw [State.complete, State.finish_of_running hrun, State.placeStamp_of_unwritten]
  rw [State.setChan_chans, getElem_set_self_fin]
  exact hwritten

/-! ## ABORT (R59, R61, R103, R104, R106, R179) -/

theorem State.abortPasses_of_running {s : State} {d : Fin 4} (hrun : s.chans[dayChannel d].phase = .running)
    (habort : s.chans[dayChannel d].abort = false) (hstate : s.days[d].state = .demoulding) :
    s.channelBusy (dayChannel d) codeAbort = false := by
  have hpasses : s.abortPasses (dayChannel d) codeAbort = true := by
    rw [State.abortPasses, channelOwner_dayChannel]
    simp only [hrun, habort, hstate]
    rfl
  rw [State.channelBusy, hpasses]
  simp

/-- The sequencer of a stroke that stops for a reason fixed in it, or fixed now (R103, R104). -/
def State.stoppedSeq (s : State) (d : Fin 4) (reason : StopReason) : Sequencer :=
  { s.seqs[d] with
    phase := .finalRetract
    stop := if s.seqs[d].stop = .none then reason else s.seqs[d].stop
    expiry := some (s.time + BitVec.ofNat 32 s.seqs[d].stroke) }

/-- R103, R104: a stop event on a stroke that can be stopped. -/
theorem State.stopEvent_of_stoppable {s : State} {d : Fin 4} (h : s.seqs[d].phase.stoppable = true)
    (reason : StopReason) : s.stopEvent d reason
      = if s.level (.ejected d) then s.setSeq d (s.stoppedSeq d reason)
        else (s.setSeq d (s.stoppedSeq d reason)).strokeFails d (s.stoppedSeq d reason).stop.fault := by
  have hseq : (s.setSeq d { s.seqs[d] with
      stop := if s.seqs[d].stop = .none then reason else s.seqs[d].stop }).seqs[d]
      = { s.seqs[d] with stop := if s.seqs[d].stop = .none then reason else s.seqs[d].stop } := getElem_set_self_fin ..
  have htwice (x y : Sequencer) : (s.setSeq d x).setSeq d y = s.setSeq d y := by
    simp only [State.setSeq, State.setSeqs, Vector.set_set]
  rw [State.stopEvent, if_pos h]
  simp only [State.enterFinalRetract]
  rw [hseq, htwice]
  rfl

/-- The part after a stroke that fails while its command has not reached memory. -/
def State.failedUnwritten (s : State) (d : Fin 4) (q : Sequencer) (reason : FaultReason) : State :=
  { s with
    seqs := s.seqs.set d q.ended
    days := s.days.set d { s.days[d] with
      state := .faulted, fault := reason, attempts := q.attempts, reserved := false }
    hist := { s.hist with reserved := s.hist.reserved - 1 }
    offers := s.offers ++ [.cause .demouldFailed (byteOf d.val) reason.code]
    chans := s.chans.set (dayChannel d) { s.chans[dayChannel d] with
      phase := .stamping, completion := some reason.code } }

theorem State.strokeFails_of_unwritten {s : State} {d : Fin 4} (hrun : s.chans[dayChannel d].phase = .running)
    (hwritten : s.chans[dayChannel d].written = false) (q : Sequencer) (reason : FaultReason) :
    (s.setSeq d q).strokeFails d reason = s.failedUnwritten d q reason := by
  have hseq : (s.setSeq d q).seqs[d] = q := getElem_set_self_fin ..
  have htwice : (s.setSeq d q).setSeq d q.ended = s.setSeq d q.ended := by
    simp only [State.setSeq, State.setSeqs, Vector.set_set]
  rw [State.strokeFails, hseq, htwice, State.demouldFails, State.complete_of_unwritten]
  · rfl
  · exact hrun
  · exact hwritten

/-- What an ABORT that passes the BUSY test leaves, by the part that its owner leaves. -/
theorem abort_starts {s u : State} {w : CommandWrite} {d : Fin 4} {phase : ChannelPhase} {completion : Option Byte}
    (harr : s.commandArrives w (dayChannel d) = true) (hrun : s.chans[dayChannel d].phase = .running)
    (habort : s.chans[dayChannel d].abort = false) (henabled : s.dayEnabled d = true)
    (hstate : s.days[d].state = .demoulding)
    (hu : (s.startAbort (dayChannel d) ⟨codeAbort, w.tag, w.argument, w.addr⟩).abortStroke d = u)
    (hpass : u.pass = s.pass) (hmem : u.mem = s.mem) (hphase : phase ≠ .idle)
    (hchan : u.chans[dayChannel d]
      = ⟨phase, some ⟨codeAbort, w.tag, w.argument, w.addr⟩, true, completion, false, false⟩) :
    ∃ t, exec (.abort w) s = .next t ∧ t = { u.deliver with pass := t.pass, mem := t.mem, chans := t.chans }
      ∧ t.wordPassed s w.addr w.enables (wordOf 0x03 w.tag w.argument 0x01)
      ∧ t.chans[dayChannel d].stamp = some ⟨0x03, w.tag, w.argument, w.addr⟩
      ∧ t.chans[dayChannel d].abort = true ∧ t.chans[dayChannel d].phase = phase
      ∧ t.chans[dayChannel d].completion = completion := by
  have hdec : s.ownerDecision (dayChannel d) ⟨codeAbort, w.tag, w.argument, w.addr⟩ = (0x01, u) := by
    rw [State.ownerDecision_day, ← hu]
    change s.abortDecision d _ = _
    rw [State.abortDecision, if_neg (by rw [henabled]; decide), if_neg (by rw [hstate]; decide)]
  obtain ⟨t, placed, hexec, hframe, hword, hchans, -⟩ := State.commandAccess_starts harr
    (State.abortPasses_of_running hrun habort hstate) hdec ⟨s.pass.queue, s.pass.waiting, hpass⟩ hmem
    (by rw [hchan]; exact hphase) (by rw [hchan])
  have htchan : t.chans[dayChannel d] = ⟨phase, some ⟨codeAbort, w.tag, w.argument, w.addr⟩, true, completion,
      placed, t.portIdle⟩ := by
    rw [hchans, getElem_set_self_fin, hchan]
  refine ⟨t, hexec, hframe, hword, ?_⟩
  rw [htchan]
  exact ⟨rfl, rfl, rfl, rfl⟩

/-- ABORT with the stroke going on, whatever its sequencer is from here on. -/
theorem abort_strokeGoesOn {s : State} {w : CommandWrite} {d : Fin 4} {q : Sequencer}
    (harr : s.commandArrives w (dayChannel d) = true) (hrun : s.chans[dayChannel d].phase = .running)
    (habort : s.chans[dayChannel d].abort = false) (henabled : s.dayEnabled d = true)
    (hstate : s.days[d].state = .demoulding)
    (hu : (s.startAbort (dayChannel d) ⟨codeAbort, w.tag, w.argument, w.addr⟩).abortStroke d
      = (s.startAbort (dayChannel d) ⟨codeAbort, w.tag, w.argument, w.addr⟩).setSeq d q) :
    ∃ t, exec (.abort w) s = .next t
      ∧ t = { s with
          days := t.days, seqs := t.seqs, hist := t.hist, att := t.att, pass := t.pass, chans := t.chans
          mem := t.mem }
      ∧ t.wordPassed s w.addr w.enables (wordOf 0x03 w.tag w.argument 0x01)
      ∧ t.chans[dayChannel d].stamp = some ⟨0x03, w.tag, w.argument, w.addr⟩
      ∧ t.chans[dayChannel d].abort = true ∧ t.seqs = s.seqs.set d q
      ∧ t.days = s.days ∧ t.hist = s.hist ∧ t.att = s.att ∧ t.chans[dayChannel d].phase = .running := by
  obtain ⟨⟨-, -, hoffers⟩, -⟩ := (s.commandArrives_iff w _).mp harr
  obtain ⟨t, hexec, hframe, hword, hstamp, hab, hphase, -⟩ := abort_starts harr hrun habort henabled hstate hu rfl rfl
    (phase := .running) (by decide) (getElem_set_self_fin ..)
  rw [State.deliver_nil (by exact hoffers)] at hframe
  have hseqs : t.seqs = s.seqs.set d q := congrArg State.seqs hframe
  have hdays : t.days = s.days := by rw [hframe]; rfl
  have hhist : t.hist = s.hist := by rw [hframe]; rfl
  have hatt : t.att = s.att := by rw [hframe]; rfl
  refine ⟨t, hexec, ?_, hword, hstamp, hab, hseqs, hdays, hhist, hatt, hphase⟩
  rw [hseqs, hdays, hhist, hatt]
  exact hframe

/-- ABORT with EJECTED deasserted: the stroke fails at once. -/
theorem abort_strokeFails {s : State} {w : CommandWrite} {d : Fin 4} {q : Sequencer} {reason : FaultReason}
    (harr : s.commandArrives w (dayChannel d) = true) (hrun : s.chans[dayChannel d].phase = .running)
    (habort : s.chans[dayChannel d].abort = false) (henabled : s.dayEnabled d = true)
    (hstate : s.days[d].state = .demoulding)
    (hu : (s.startAbort (dayChannel d) ⟨codeAbort, w.tag, w.argument, w.addr⟩).abortStroke d
      = (s.startAbort (dayChannel d) ⟨codeAbort, w.tag, w.argument, w.addr⟩).failedUnwritten d q reason) :
    ∃ t, exec (.abort w) s = .next t
      ∧ t = { s with
          days := t.days, seqs := t.seqs, hist := t.hist, att := t.att, pass := t.pass, chans := t.chans
          mem := t.mem }
      ∧ t.wordPassed s w.addr w.enables (wordOf 0x03 w.tag w.argument 0x01)
      ∧ t.chans[dayChannel d].stamp = some ⟨0x03, w.tag, w.argument, w.addr⟩
      ∧ t.chans[dayChannel d].abort = true
      ∧ t.seqs = s.seqs.set d q.ended
      ∧ t.days = s.days.set d { s.days[d] with
          state := .faulted, fault := reason, attempts := q.attempts, reserved := false }
      ∧ t.hist = { s.hist with reserved := s.hist.reserved - 1 }
      ∧ t.att = s.att.offer .demouldFailed (byteOf d.val) reason.code
      ∧ t.chans[dayChannel d].phase = .stamping ∧ t.chans[dayChannel d].completion = some reason.code := by
  obtain ⟨⟨-, -, hoffers⟩, -⟩ := (s.commandArrives_iff w _).mp harr
  have hstarted : (s.startAbort (dayChannel d) ⟨codeAbort, w.tag, w.argument, w.addr⟩).chans[dayChannel d]
      = ⟨.running, some ⟨codeAbort, w.tag, w.argument, w.addr⟩, true, none, false, false⟩ := getElem_set_self_fin ..
  obtain ⟨t, hexec, hframe, hword, hstamp, hab, hphase, hcompletion⟩ := abort_starts harr hrun habort henabled hstate hu
    rfl rfl (phase := .stamping) (completion := some reason.code) (by decide)
    (by rw [State.failedUnwritten, getElem_set_self_fin, hstarted])
  have hone : ((s.startAbort (dayChannel d) ⟨codeAbort, w.tag, w.argument, w.addr⟩).failedUnwritten d q reason).offers
      = [.cause .demouldFailed (byteOf d.val) reason.code] := by
    change s.offers ++ _ = _
    rw [hoffers]
    rfl
  rw [State.deliver_single hone] at hframe
  have hseqs := congrArg State.seqs hframe
  have hdays := congrArg State.days hframe
  have hhist := congrArg State.hist hframe
  have hatt := congrArg State.att hframe
  refine ⟨t, hexec, ?_, hword, hstamp, hab, hseqs, hdays, hhist, hatt, hphase, hcompletion⟩
  rw [hseqs, hdays, hhist, hatt, hoffers]
  exact hframe

theorem Vector.set_self_fin {α : Type} {n : Nat} (v : Vector α n) (i : Fin n) : v.set i v[i] = v := by simp

theorem State.setSeq_self {s : State} {d : Fin 4} {q : Sequencer} (h : s.seqs[d] = q) : s.setSeq d q = s := by
  rw [State.setSeq, ← h, Vector.set_self_fin]
  rfl

/-- Settles O32: the stroke has nothing left to abort, or EJECTED is asserted, or the stroke ends at once. -/
theorem abortStopsTheStroke : Obligations.AbortStopsTheStroke := by
  intro s w d harr hrun habort henabled hstate
  generalize hs0 : s.startAbort (dayChannel d) ⟨codeAbort, w.tag, w.argument, w.addr⟩ = s0
  have hseq : s0.seqs[d] = s.seqs[d] := by rw [← hs0]; rfl
  have hstopped : s0.stoppedSeq d .aborted = s.stoppedSeq d .aborted := by rw [← hs0]; rfl
  have hlevel : s0.level (.ejected d) = s.level (.ejected d) := by rw [← hs0]; rfl
  have habortSeq (hnone : s.seqs[d].stop = .none) : s.stoppedSeq d .aborted = { s.seqs[d] with
      phase := .finalRetract, stop := .aborted
      expiry := some (s.time + BitVec.ofNat 32 s.seqs[d].stroke) } := by
    rw [State.stoppedSeq, if_pos hnone]
  by_cases hlive : s.seqs[d].phase.stoppable = true ∧ ¬ (s.seqs[d].phase = .retracting ∧ s.seqs[d].last = .confirmed)
  · obtain ⟨hstoppable, hnot⟩ := hlive
    have hstop : s0.abortStroke d = s0.stopEvent d .aborted := by
      rw [State.abortStroke, hseq, if_neg hnot]
    rw [State.stopEvent_of_stoppable (by rw [hseq]; exact hstoppable), hlevel, hstopped] at hstop
    cases hejected : s.level (.ejected d) with
    | true =>
      rw [hejected, if_pos rfl, ← hs0] at hstop
      obtain ⟨t, hexec, hframe, hword, hstamp, hab, hseqs, hdays, hhist, hatt, hphase⟩ :=
        abort_strokeGoesOn harr hrun habort henabled hstate hstop
      refine ⟨t, hexec, hframe, hword, hstamp, hab, fun _ _ hnone => ⟨fun _ => ?_, fun h => by cases h⟩,
        fun hr hc => absurd ⟨hr, hc⟩ hnot⟩
      rw [habortSeq hnone] at hseqs
      exact ⟨hseqs, hdays, hhist, hatt, hphase⟩
    | false =>
      rw [hejected, if_neg (by decide), State.strokeFails_of_unwritten (by rw [← hs0]; simp [State.startAbort])
        (by rw [← hs0]; simp [State.startAbort]), ← hs0] at hstop
      obtain ⟨t, hexec, hframe, hword, hstamp, hab, hseqs, hdays, hhist, hatt, hphase, hcompletion⟩ :=
        abort_strokeFails harr hrun habort henabled hstate hstop
      refine ⟨t, hexec, hframe, hword, hstamp, hab, fun _ _ hnone => ⟨(fun h => by cases h), fun _ => ?_⟩,
        fun hr hc => absurd ⟨hr, hc⟩ hnot⟩
      rw [habortSeq hnone] at hseqs hdays hatt hcompletion
      exact ⟨hseqs, hdays, hhist, hatt, hphase, hcompletion⟩
  · have hkept : s0.abortStroke d = s0.setSeq d s.seqs[d] := by
      rw [State.setSeq_self hseq, State.abortStroke, State.stopEvent, hseq]
      split
      · rfl
      · next hnot => exact if_neg fun h => hlive ⟨h, hnot⟩
    rw [← hs0] at hkept
    obtain ⟨t, hexec, hframe, hword, hstamp, hab, hseqs, hdays, hhist, hatt, hphase⟩ :=
      abort_strokeGoesOn harr hrun habort henabled hstate hkept
    rw [Vector.set_self_fin] at hseqs
    exact ⟨t, hexec, hframe, hword, hstamp, hab, fun h hnot _ => absurd ⟨h, hnot⟩ hlive,
      fun _ _ => ⟨hseqs, hdays, hhist, hatt, hphase⟩⟩

/-! ## RESTART LINK (R14, R17, R21) -/

/-- The link after RESTART LINK. -/
def Link.afterRestart (l : Link) (m : CellMap) : Link :=
  { l with
    state := if m.modules = 0 then .running else .discovering
    health := 0, found := 0, probes := 0, queue := [], ride := 0
    restarted := true
    restart := decide (m.modules ≠ 0)
    modules := Vector.replicate 10 Module.powerOn }

/-- The link channel's record after RESTART LINK, before the command has reached memory. -/
def restartRecord (m : CellMap) (stamp : Stamp) : Channel :=
  ⟨if m.modules = 0 then .stamping else .running, some stamp, false, if m.modules = 0 then some linkDone else none,
    false, false⟩

/-- The part after RESTART LINK: discovery ends in the step when no module is expected. -/
theorem State.carryRestart_eq (s : State) (stamp : Stamp) : s.carryRestart stamp = { s with
    link := s.link.afterRestart s.cell
    chans := s.chans.set linkChannel (restartRecord s.cell stamp)
    offers := s.offers ++ s.link.queue.map fun p => .resolution p 0xFF } := by
  have hstarted : (s.startTimed linkChannel stamp).chans[linkChannel]
      = ⟨.running, some stamp, false, none, false, false⟩ := getElem_set_self_fin ..
  rw [State.carryRestart, Link.startDiscovery_eq]
  by_cases hnone : s.cell.modules = 0
  · rw [State.takeLink_of_completion (code := linkDone) (by simp [hnone]), State.complete_of_unwritten]
    · apply State.ext_fields <;>
        simp [State.startTimed, Link.afterRestart, restartRecord, hnone]
    · exact congrArg Channel.phase hstarted
    · exact congrArg Channel.written hstarted
  · rw [State.takeLink_of_no_completion (by simp [hnone])]
    apply State.ext_fields <;> simp [State.startTimed, Link.afterRestart, restartRecord, hnone]

/-- Settles O34: discovery starts before the write passes, and may complete before it. -/
theorem restartLinkStartsDiscovery : Obligations.RestartLinkStartsDiscovery := by
  intro s w harr hidle
  obtain ⟨⟨-, -, hoffers⟩, -⟩ := (s.commandArrives_iff w _).mp harr
  generalize hstamp : (⟨codeRestartLink, w.tag, w.argument, w.addr⟩ : Stamp) = stamp
  have hdec : s.ownerDecision linkChannel ⟨codeRestartLink, w.tag, w.argument, w.addr⟩
      = (0x01, s.carryRestart stamp) := by rw [← hstamp]; rfl
  have hchan : (s.carryRestart stamp).chans[linkChannel] = restartRecord s.cell stamp := by
    rw [State.carryRestart_eq]
    exact getElem_set_self_fin ..
  have hpass : (s.carryRestart stamp).pass = s.pass := by rw [State.carryRestart_eq]
  have hmem : (s.carryRestart stamp).mem = s.mem := by rw [State.carryRestart_eq]
  obtain ⟨t, placed, hexec, hframe, hword, hchans, -⟩ := State.commandAccess_starts harr
    (State.channelBusy_of_idle hidle _) hdec ⟨s.pass.queue, s.pass.waiting, hpass⟩ hmem
    (by rw [hchan, restartRecord]; split <;> simp) (by rw [hchan, restartRecord])
  have hlink : t.link = s.link.afterRestart s.cell := by
    rw [hframe]
    exact (State.deliver_link _).trans (by rw [State.carryRestart_eq])
  have htchan : t.chans[linkChannel] = { restartRecord s.cell stamp with written := t.portIdle, placed := placed } := by
    rw [hchans, getElem_set_self_fin, hchan]
  refine ⟨t, hexec, ?_, hword, hlink, fun hempty => ?_, ?_, ?_, ?_⟩
  · have hdeliver : (s.carryRestart stamp).deliver = { s with
        link := (s.carryRestart stamp).deliver.link, att := (s.carryRestart stamp).deliver.att
        chans := (s.carryRestart stamp).deliver.chans, choice := (s.carryRestart stamp).deliver.choice } := by
      apply State.ext_fields <;> simp [State.carryRestart_eq, hoffers]
    have hparts : t.link = (s.carryRestart stamp).deliver.link ∧ t.att = (s.carryRestart stamp).deliver.att
        ∧ t.choice = (s.carryRestart stamp).deliver.choice := by
      rw [hframe]
      exact ⟨rfl, rfl, rfl⟩
    obtain ⟨hlink', hatt, hchoice⟩ := hparts
    rw [hlink', hatt, hchoice]
    rw [hdeliver] at hframe
    exact hframe
  · rw [hframe]
    change (s.carryRestart stamp).deliver.att = s.att
    rw [State.deliver_nil (by rw [State.carryRestart_eq, hempty, hoffers]; rfl), State.carryRestart_eq]
  · rw [htchan, ← hstamp]
    rfl
  · rw [htchan]
    rfl
  · rw [htchan]
    rfl

end Sys2Proof.Machine
end

section
/-! Weighing: polls, answers, misses, ply capture and the life of a charge (R69 to R86). -/

namespace Sys2Proof.Machine

/-! ## Polls (R69, R70) -/

theorem CellMap.mem_enabledHeads {m : CellMap} {h : Fin 4} :
    h ∈ m.enabledHeads ↔ m.headEnable.getLsbD h.val = true := by
  simp [CellMap.enabledHeads]

theorem nextHead_mem {enabled : List (Fin 4)} {last : Option (Fin 4)} {h : Fin 4}
    (hnext : nextHead enabled last = some h) :
    h ∈ enabled := by
  cases last with
  | none => exact List.mem_of_head? hnext
  | some p =>
    rcases List.mem_append.mp (List.mem_of_head? hnext) with hlater | hany
    · exact List.mem_of_mem_filter hlater
    · exact hany

theorem nextHead_nil (last : Option (Fin 4)) : nextHead [] last = none := by
  cases last <;> rfl

theorem State.noAnswer_of_no_slot {s : State} (h : s.weigh.slot = none) : s.noAnswer = s := by
  rw [State.noAnswer, h]

/-- Settles O44: with no answer wait open, the poll is the rotation's next head. -/
theorem pollAddressesTheNextHead : Obligations.PollAddressesTheNextHead := by
  refine fun s hoffers hslot => ⟨fun h hnext => ⟨CellMap.mem_enabledHeads.mp (nextHead_mem hnext), ?_⟩, fun hnone => ?_⟩
  · have hstart : s.startSlot = s.setWeigh { s.weigh with
        lastPolled := some h, slot := some ⟨h, pollFrame h, false⟩, buffer := [], overlong := false } := by
      rw [State.startSlot, State.noAnswer_of_no_slot hslot]
      simp only [hnext]
    have hexec : exec .poll s = .next s.startSlot :=
      State.done_of_offers_nil (s := s.startSlot) (by rw [hstart]; exact hoffers)
    rw [hexec, hstart]
    rfl
  · have henabled : s.cell.enabledHeads = [] := by
      rw [CellMap.enabledHeads, List.filter_eq_nil_iff]
      exact fun h _ => by rw [hnone h]; decide
    have hstart : s.startSlot = s := by
      rw [State.startSlot, State.noAnswer_of_no_slot hslot]
      simp only [henabled, nextHead_nil]
    have hexec : exec .poll s = .next s.startSlot :=
      State.done_of_offers_nil (s := s.startSlot) (by rw [hstart]; exact hoffers)
    rw [hexec, hstart]

/-! ## Misses (R74, R83) -/

theorem Head.fallsSilent_of_lt {x : Head} (h : x.misses < 9) : x.fallsSilent = false := by
  have hlt : ¬ Config.silentAt ≤ x.misses + 1 := by simp only [Config.silentAt]; omega
  simp [Head.fallsSilent, hlt]

theorem Head.miss_of_lt {x : Head} (h : x.misses < 9) : x.miss = { x with window := [], misses := x.misses + 1 } := by
  have hmin : min Config.silentAt (x.misses + 1) = x.misses + 1 :=
    Nat.min_eq_right (by simp only [Config.silentAt]; omega)
  have hne : ¬ x.misses + 1 = Config.silentAt := by simp only [Config.silentAt]; omega
  simp [Head.miss, hmin, hne]

theorem Head.fallsSilent_of_ge {x : Head} (h : 9 ≤ x.misses) (hstate : x.state = .unknown ∨ x.state = .ready) :
    x.fallsSilent = true := by
  have hge : Config.silentAt ≤ x.misses + 1 := by simp only [Config.silentAt]; omega
  rcases hstate with hs | hs <;> simp [Head.fallsSilent, hge, hs]

theorem Head.miss_of_ge {x : Head} (h : 9 ≤ x.misses) (hstate : x.state = .unknown ∨ x.state = .ready) :
    x.miss = { x with window := [], misses := 10, state := .silent } := by
  have hmin : min Config.silentAt (x.misses + 1) = Config.silentAt :=
    Nat.min_eq_left (by simp only [Config.silentAt]; omega)
  rcases hstate with hs | hs <;> simp [Head.miss, hmin, hs] <;> rfl

theorem State.headMiss_of_lt {s : State} {h : Fin 4} (hlt : s.weigh.heads[h].misses < 9) :
    s.headMiss h = s.setHead h { s.weigh.heads[h] with window := [], misses := s.weigh.heads[h].misses + 1 } := by
  simp only [State.headMiss, Head.fallsSilent_of_lt hlt, Head.miss_of_lt hlt, Bool.false_eq_true, if_false]

/-- The part after the tenth miss of head `h`, its charge apart (R74). -/
def State.headSilenced (s : State) (h : Fin 4) : State :=
  (s.setHead h { s.weigh.heads[h] with window := [], misses := 10, state := .silent }).raise
    .headSilent (byteOf h.val) 0

theorem State.headMiss_of_ge {s : State} {h : Fin 4} (hge : 9 ≤ s.weigh.heads[h].misses)
    (hstate : s.weigh.heads[h].state = .unknown ∨ s.weigh.heads[h].state = .ready)
    (hheld : s.weigh.heads[h].held = none) : s.headMiss h = s.headSilenced h := by
  simp only [State.headMiss, State.headSilenced, Head.fallsSilent_of_ge hge hstate, Head.miss_of_ge hge hstate, if_true,
    hheld]

theorem State.headMiss_of_ge_of_held {s : State} {h : Fin 4} {i : Fin 6} (hge : 9 ≤ s.weigh.heads[h].misses)
    (hstate : s.weigh.heads[h].state = .unknown ∨ s.weigh.heads[h].state = .ready)
    (hheld : s.weigh.heads[h].held = some i) :
    s.headMiss h = (s.headSilenced h).suspectCharge h i .headSilent := by
  simp only [State.headMiss, State.headSilenced, Head.fallsSilent_of_ge hge hstate, Head.miss_of_ge hge hstate, if_true,
    hheld]

/-- A charge made SUSPECT, and the head that held it (R83). -/
theorem State.suspectCharge_weigh (s : State) (h : Fin 4) (i : Fin 6) (reason : ChargeReason) :
    (s.suspectCharge h i reason).weigh = { s.weigh with
      charges := s.weigh.charges.set i { s.weigh.charges[i] with
        state := .suspect, reason := reason, completed := s.time }
      heads := s.weigh.heads.set h { s.weigh.heads[h] with held := none } } := rfl

/-- Settles O45, by the discard mark and the number of misses. -/
theorem unansweredSlotIsAMiss : Obligations.UnansweredSlotIsAMiss := by
  intro s p hoffers hslot
  have hopen (hd : p.discard = false) : s.noAnswer = s.closeSlot.headMiss p.head := by
    rw [State.noAnswer, hslot]
    simp only [hd, Bool.false_eq_true, if_false]
  refine ⟨fun hd => ?_, fun hd hlt => ?_, fun hd hge hstate => ?_⟩
  · have hclose : s.noAnswer = s.closeSlot := by
      rw [State.noAnswer, hslot]
      exact if_pos hd
    have hexec : exec .answerWaitExpiry s = .next s.noAnswer :=
      State.done_of_offers_nil (s := s.noAnswer) (by rw [hclose]; exact hoffers)
    rw [hexec, hclose]
    rfl
  · have hmiss := (hopen hd).trans (State.headMiss_of_lt (s := s.closeSlot) hlt)
    have hexec : exec .answerWaitExpiry s = .next s.noAnswer :=
      State.done_of_offers_nil (s := s.noAnswer) (by rw [hmiss]; exact hoffers)
    rw [hexec, hmiss]
    rfl
  · have hdue : s.silenceDue p.head none = true := by
      simp [State.silenceDue, hslot, hd, Head.fallsSilent_of_ge hge hstate, -Fin.getElem_fin]
    have hrow : exec (.headSilent p.head none) s = s.noAnswer.done := by
      change (if s.silenceDue p.head none then s.endSlot none else s).done = _
      rw [hdue]
      rfl
    refine ⟨s.noAnswer.deliver, hrow, rfl, ?_⟩
    have hsilenced : (s.closeSlot.headSilenced p.head).weigh.heads[p.head]
        = { s.weigh.heads[p.head] with window := [], misses := 10, state := .silent } := getElem_set_self_fin ..
    cases hheld : s.weigh.heads[p.head].held with
    | none =>
      have hmiss := (hopen hd).trans (State.headMiss_of_ge (s := s.closeSlot) hge hstate hheld)
      have hone : s.noAnswer.offers = [.cause .headSilent (byteOf p.head.val) 0] := by
        rw [hmiss, State.headSilenced, State.raise_offers]
        exact congrArg (· ++ _) hoffers
      have hhead : s.noAnswer.deliver.weigh.heads[p.head]
          = { s.weigh.heads[p.head] with window := [], misses := 10, state := .silent } := by
        rw [State.deliver_weigh, hmiss]
        exact hsilenced
      rw [hhead]
      refine ⟨rfl, rfl, rfl, hheld, fun _ => ⟨?_, ?_⟩, fun i h => by cases h⟩
      · rw [State.deliver_weigh, hmiss]
        rfl
      · rw [State.deliver_single hone, hmiss]
        rfl
    | some i =>
      have hmiss := (hopen hd).trans (State.headMiss_of_ge_of_held (s := s.closeSlot) hge hstate hheld)
      have hweigh : s.noAnswer.deliver.weigh
          = ((s.closeSlot.headSilenced p.head).suspectCharge p.head i .headSilent).weigh := by
        rw [State.deliver_weigh, hmiss]
      have hhead : s.noAnswer.deliver.weigh.heads[p.head] = { s.weigh.heads[p.head] with
          window := [], misses := 10, state := .silent, held := none } := by
        rw [hweigh, State.suspectCharge_weigh, getElem_set_self_fin, hsilenced]
      rw [hhead]
      refine ⟨rfl, rfl, rfl, rfl, (fun h => by cases h), fun j hj => ?_⟩
      obtain rfl : i = j := Option.some.inj hj
      rw [hweigh]
      rfl

/-! ## Answers (R72, R74, R75) -/

theorem State.endAnswer_of_ok {s : State} {p : PollSlot} {chars : List RxChar} {a : Answer}
    (hslot : s.weigh.slot = some p) (hd : p.discard = false) (hok : evaluateAnswer p.head chars = .ok a) :
    s.endAnswer chars = (s.receiveAnswer chars).headAnswer p.head a := by
  rw [State.endAnswer, hslot]
  simp only [hd, hok, Bool.false_eq_true, if_false]

theorem State.endAnswer_of_error {s : State} {p : PollSlot} {chars : List RxChar} {kind : Byte}
    (hslot : s.weigh.slot = some p) (hd : p.discard = false) (herror : evaluateAnswer p.head chars = .error kind) :
    s.endAnswer chars = (s.receiveAnswer chars).discardAnswer p.head kind := by
  rw [State.endAnswer, hslot]
  simp only [hd, herror, Bool.false_eq_true, if_false]

/-- R72, R74: a discarded answer that does not silence its head. -/
theorem State.discardAnswer_of_lt {s : State} {h : Fin 4} (hlt : s.weigh.heads[h].misses < 9) (kind : Byte) :
    s.discardAnswer h kind = (s.setHead h { s.weigh.heads[h] with
        errors := min 65535 (s.weigh.heads[h].errors + 1), window := [], misses := s.weigh.heads[h].misses + 1 }).raise
      .weighLineError (byteOf h.val) kind := by
  have hcounted : ((s.setHead h { s.weigh.heads[h] with errors := min 65535 (s.weigh.heads[h].errors + 1) }).raise
      .weighLineError (byteOf h.val) kind).weigh.heads[h]
      = { s.weigh.heads[h] with errors := min 65535 (s.weigh.heads[h].errors + 1) } := getElem_set_self_fin ..
  rw [State.discardAnswer, State.headMiss_of_lt (by rw [hcounted]; exact hlt), hcounted]
  simp only [State.setHead, State.raise, State.setWeigh, State.setOffers, Vector.set_set]

/-- The part with a valid answer kept, before it is offered to a charge (R74, R75). -/
def State.answered (s : State) (h : Fin 4) (a : Answer) (chars : List RxChar) : State :=
  (s.receiveAnswer chars).setHead h (s.weigh.heads[h].answer a s.cell.settle)

theorem State.answered_head (s : State) (h : Fin 4) (a : Answer) (chars : List RxChar) :
    (s.answered h a chars).weigh.heads[h] = s.weigh.heads[h].answer a s.cell.settle := getElem_set_self_fin ..

theorem State.setHead_answered (s : State) (h : Fin 4) (a : Answer) (chars : List RxChar) :
    (s.receiveAnswer chars).setHead h ((s.receiveAnswer chars).weigh.heads[h].answer a
      (s.receiveAnswer chars).cell.settle) = s.answered h a chars := rfl

theorem State.answered_held (s : State) (h : Fin 4) (a : Answer) (chars : List RxChar) :
    (s.answered h a chars).weigh.heads[h].held = s.weigh.heads[h].held := by
  rw [s.answered_head]
  rfl

/-- R81: a valid answer that settles its head is offered to the head's OPEN charge. -/
theorem State.headAnswer_of_settled {s : State} {h : Fin 4} {a : Answer} {chars : List RxChar} {i : Fin 6}
    {weight : Int}
    (hsettled : (s.answered h a chars).settled h = some weight) (hheld : s.weigh.heads[h].held = some i) :
    (s.receiveAnswer chars).headAnswer h a = (s.answered h a chars).capture h i weight := by
  have hheld' := (s.answered_held h a chars).trans hheld
  simp only [State.headAnswer, s.setHead_answered, hsettled, hheld']

theorem State.headAnswer_of_unsettled {s : State} {h : Fin 4} {a : Answer} {chars : List RxChar}
    (hnone : s.weigh.heads[h].held = none ∨ (s.answered h a chars).settled h = none) :
    (s.receiveAnswer chars).headAnswer h a = s.answered h a chars := by
  simp only [State.headAnswer, s.setHead_answered, s.answered_held]
  rcases hnone with hheld | hsettled
  · rw [hheld]
    split
    · next h => cases h
    · rfl
  · rw [hsettled]

theorem State.answered_settled {s : State} {h : Fin 4} {a : Answer} (hready : s.weigh.heads[h].state = .ready)
    (chars : List RxChar) : (s.answered h a chars).settled h
      = settledWeight (s.weigh.heads[h].answer a s.cell.settle).window s.cell.settle s.cell.band := by
  have hstate : (s.weigh.heads[h].answer a s.cell.settle).state = .ready := by
    simp [Head.answer, hready, -Fin.getElem_fin]
  rw [State.settled, s.answered_head, if_pos hstate]
  rfl

theorem State.answered_settled_of_none {s : State} {h : Fin 4} {a : Answer}
    (hnone : settledWeight (s.weigh.heads[h].answer a s.cell.settle).window s.cell.settle s.cell.band = none)
    (chars : List RxChar) : (s.answered h a chars).settled h = none := by
  rw [State.settled, s.answered_head]
  split
  · exact hnone
  · rfl

/-! ## Ply capture (R81 to R83) -/

theorem State.capture_of_rise {s : State} {h : Fin 4} {i : Fin 6} {weight : Int}
    (hleast : (s.weigh.charges[i].recipe.entry.minPly : Int) ≤ weight - s.weigh.charges[i].reference)
    (hmost : weight - s.weigh.charges[i].reference ≤ 65535)
    (hroom : s.weigh.charges[i].plies.length < s.weigh.charges[i].recipe.entry.maxPlies) :
    s.capture h i weight = s.setCharge i (s.weigh.charges[i].addPly
        (weight - s.weigh.charges[i].reference) weight) := by
  simp only [State.capture]
  rw [if_pos hleast, if_neg (Int.not_lt.mpr hmost), if_neg (Nat.not_le.mpr hroom)]

theorem State.capture_of_removal {s : State} {h : Fin 4} {i : Fin 6} {weight : Int}
    (hfall : weight - s.weigh.charges[i].reference ≤ -(s.weigh.charges[i].recipe.entry.minPly : Int))
    (hless : weight - s.weigh.charges[i].reference < (s.weigh.charges[i].recipe.entry.minPly : Int))
    (hmatch : s.weigh.charges[i].matchesLast (-(weight - s.weigh.charges[i].reference)) s.cell.band = true) :
    s.capture h i weight = s.setCharge i (s.weigh.charges[i].dropPly weight) := by
  simp only [State.capture]
  rw [if_neg (Int.not_le.mpr hless), if_pos hfall, if_pos hmatch]

theorem State.capture_of_drift {s : State} {h : Fin 4} {i : Fin 6} {weight : Int}
    (hfall : -(s.weigh.charges[i].recipe.entry.minPly : Int) < weight - s.weigh.charges[i].reference)
    (hless : weight - s.weigh.charges[i].reference < (s.weigh.charges[i].recipe.entry.minPly : Int)) :
    s.capture h i weight = s := by
  simp only [State.capture]
  rw [if_neg (Int.not_le.mpr hless), if_neg (Int.not_le.mpr hfall)]

/-- When and why a settled weight makes the charge SUSPECT (R81 to R83). -/
def State.Suspects (s : State) (i : Fin 6) (weight : Int) (reason : ChargeReason) : Prop :=
  let c := s.weigh.charges[i]
  let least : Int := c.recipe.entry.minPly
  let diff := weight - c.reference
  (least ≤ diff ∧ 65535 < diff ∧ reason = .plyTooHeavy)
    ∨ (least ≤ diff ∧ diff ≤ 65535 ∧ c.recipe.entry.maxPlies ≤ c.plies.length ∧ reason = .plyListFull)
    ∨ (diff ≤ -least ∧ diff < least ∧ c.matchesLast (-diff) s.cell.band = false ∧ reason = .unexplainedRemoval)

theorem State.capture_of_suspects {s : State} {i : Fin 6} {weight : Int} {reason : ChargeReason}
    (hsuspects : s.Suspects i weight reason) (h : Fin 4) : s.capture h i weight = s.suspectCharge h i reason := by
  simp only [State.capture]
  rcases hsuspects with ⟨hleast, hheavy, rfl⟩ | ⟨hleast, hmost, hfull, rfl⟩ | ⟨hfall, hless, hmatch, rfl⟩
  · rw [if_pos hleast, if_pos hheavy]
  · rw [if_pos hleast, if_neg (Int.not_lt.mpr hmost), if_pos hfull]
  · rw [if_neg (Int.not_le.mpr hless), if_pos hfall, if_neg (by rw [hmatch]; decide)]

/-- A settled weight changes the Weigh Channel, and raises CHARGE SUSPECT or nothing. -/
theorem State.capture_frame (s : State) (h : Fin 4) (i : Fin 6) (weight : Int) :
    s.capture h i weight = s.setWeigh (s.capture h i weight).weigh
      ∨ ∃ reason, s.capture h i weight = s.suspectCharge h i reason := by
  simp only [State.capture]
  split
  · split
    · exact .inr ⟨_, rfl⟩
    · split
      · exact .inr ⟨_, rfl⟩
      · exact .inl rfl
  · split
    · split
      · exact .inl rfl
      · exact .inr ⟨_, rfl⟩
    · exact .inl rfl

theorem ChargeSlot.matchesLast_iff (c : ChargeSlot) (removed : Int) (band : Nat) :
    c.matchesLast removed band = true ↔ ∃ ply : Nat, c.plies.getLast? = some ply ∧
        (removed - (ply : Int)).natAbs ≤ band := by
  unfold ChargeSlot.matchesLast
  cases c.plies.getLast? <;> simp

theorem ChargeSlot.dropPly_of_last {c : ChargeSlot} {ply : Nat} (h : c.plies.getLast? = some ply) (weight : Int) :
    c.dropPly weight = { c with plies := c.plies.dropLast, total := c.total - (ply : Int), reference := weight } := by
  have hlast : c.plies.getLastD 0 = ply := by rw [List.getLastD_eq_getLast?, h]; rfl
  rw [ChargeSlot.dropPly, hlast]

end Sys2Proof.Machine
end

section
/-! The statements on answers (R72 to R83) and on the life of a charge (R85). -/

namespace Sys2Proof.Machine

/-! ## Answers in the open slot -/

/-- The first part of O46: a discarded answer. -/
theorem answerEnd_discarded {s : State} {p : PollSlot} {chars : List RxChar} {kind : Byte} (hoffers : s.offers = [])
    (hslot : s.weigh.slot = some p) (hd : p.discard = false) (herror : evaluateAnswer p.head chars = .error kind)
    (hlt : s.weigh.heads[p.head].misses < 9) :
    ∃ t, exec (.answerEnd chars) s = .next t ∧ t = { s with weigh := t.weigh, att := t.att }
      ∧ t.att = s.att.offer .weighLineError (byteOf p.head.val) kind
      ∧ t.weigh.charges = s.weigh.charges ∧ t.weigh.slot = none
      ∧ t.weigh.heads = s.weigh.heads.set p.head { s.weigh.heads[p.head] with
          errors := min 65535 (s.weigh.heads[p.head].errors + 1), window := []
          misses := s.weigh.heads[p.head].misses + 1 } := by
  have hend := State.endAnswer_of_error hslot hd herror
  rw [State.discardAnswer_of_lt (s := s.receiveAnswer chars) hlt] at hend
  have hone : (s.endAnswer chars).offers = [.cause .weighLineError (byteOf p.head.val) kind] := by
    rw [hend, State.raise_offers]
    exact congrArg (· ++ _) hoffers
  refine ⟨(s.endAnswer chars).deliver, rfl, ?_⟩
  rw [State.deliver_single hone, hend]
  refine ⟨?_, rfl, rfl, rfl, rfl⟩
  apply State.ext_fields <;> simp [State.receiveAnswer, hoffers]

/-- The part after a valid answer that is offered to no charge. -/
theorem State.endAnswer_of_no_capture {s : State} {p : PollSlot} {chars : List RxChar} {a : Answer}
    (hslot : s.weigh.slot = some p) (hd : p.discard = false) (hok : evaluateAnswer p.head chars = .ok a)
    (hnone : s.weigh.heads[p.head].held = none
      ∨ settledWeight (s.weigh.heads[p.head].answer a s.cell.settle).window s.cell.settle s.cell.band = none) :
    s.endAnswer chars = s.answered p.head a chars := by
  rw [State.endAnswer_of_ok hslot hd hok]
  exact State.headAnswer_of_unsettled (hnone.imp_right fun h => State.answered_settled_of_none h chars)

/-- The part after a valid answer that settles its head, with an OPEN charge. -/
theorem State.endAnswer_of_capture {s : State} {p : PollSlot} {chars : List RxChar} {a : Answer} {i : Fin 6}
    {weight : Int} (hslot : s.weigh.slot = some p) (hd : p.discard = false) (hok : evaluateAnswer p.head chars = .ok a)
    (hheld : s.weigh.heads[p.head].held = some i) (hready : s.weigh.heads[p.head].state = .ready)
    (hsettled : settledWeight (s.weigh.heads[p.head].answer a s.cell.settle).window s.cell.settle s.cell.band
      = some weight) :
    s.endAnswer chars = (s.answered p.head a chars).capture p.head i weight := by
  rw [State.endAnswer_of_ok hslot hd hok]
  exact State.headAnswer_of_settled ((State.answered_settled hready chars).trans hsettled) hheld

theorem State.suspectCharge_deliver {s : State} (hoffers : s.offers = []) (h : Fin 4) (i : Fin 6)
    (reason : ChargeReason) : (s.suspectCharge h i reason).deliver = { s with
      weigh := (s.suspectCharge h i reason).weigh
      att := s.att.offer .chargeSuspect (byteOf i.val) reason.code } := by
  have hone : (s.suspectCharge h i reason).offers = [.cause .chargeSuspect (byteOf i.val) reason.code] := by
    rw [State.suspectCharge, State.raise_offers]
    exact congrArg (· ++ _) hoffers
  rw [State.deliver_single hone]
  apply State.ext_fields <;> simp [State.suspectCharge, Attention.take, hoffers]

/-- What a settled weight can change (R81 to R83). -/
theorem State.capture_deliver_frame {s : State} (hoffers : s.offers = []) (h : Fin 4) (i : Fin 6) (weight : Int) :
    (s.capture h i weight).deliver = { s with
      weigh := (s.capture h i weight).deliver.weigh, att := (s.capture h i weight).deliver.att } := by
  rcases s.capture_frame h i weight with hcap | ⟨reason, hcap⟩
  · rw [State.deliver_nil (by rw [hcap]; exact hoffers)]
    generalize (s.capture h i weight) = u at hcap
    generalize u.weigh = w at hcap
    subst hcap
    rfl
  · rw [hcap, State.suspectCharge_deliver hoffers]

/-- What a settled weight does to the charge, by its difference from the reference. -/
theorem State.capture_delivers {s : State} (hoffers : s.offers = []) (h : Fin 4) (i : Fin 6) (weight : Int) :
    let c := s.weigh.charges[i]
    let least : Int := c.recipe.entry.minPly
    let diff := weight - c.reference
    let t := (s.capture h i weight).deliver
    (∀ ply : Nat, diff ≤ -least → diff < least → c.plies.getLast? = some ply →
        (-diff - (ply : Int)).natAbs ≤ s.cell.band →
        t.att = s.att ∧ t.weigh.charges = s.weigh.charges.set i { c with
          plies := c.plies.dropLast, total := c.total - (ply : Int), reference := weight })
      ∧ (-least < diff → diff < least → t.att = s.att ∧ t.weigh.charges = s.weigh.charges)
      ∧ ∀ reason : ChargeReason, s.Suspects i weight reason →
          t.weigh.charges = s.weigh.charges.set i
              { c with state := .suspect, reason := reason, completed := s.time }
            ∧ t.weigh.heads[h].held = none
            ∧ t.att = s.att.offer .chargeSuspect (byteOf i.val) reason.code := by
  refine ⟨fun ply hfall hless hlast hmatch => ?_, fun hfall hless => ?_, fun reason hsuspects => ?_⟩
  · have hmatches := (ChargeSlot.matchesLast_iff _ _ _).mpr ⟨ply, hlast, hmatch⟩
    rw [State.capture_of_removal hfall hless hmatches, State.deliver_nil (by exact hoffers),
      ChargeSlot.dropPly_of_last hlast]
    exact ⟨rfl, rfl⟩
  · rw [State.capture_of_drift hfall hless, State.deliver_nil hoffers]
    exact ⟨rfl, rfl⟩
  · rw [State.capture_of_suspects hsuspects, State.suspectCharge_deliver hoffers]
    refine ⟨rfl, ?_, rfl⟩
    rw [State.suspectCharge_weigh, getElem_set_self_fin]

/-- Settles O46, by the answer and the weight that it settles. -/
theorem answersAreTakenOrDiscarded : Obligations.AnswersAreTakenOrDiscarded := by
  intro s p chars hoffers hslot hd
  refine ⟨fun kind herror hlt => answerEnd_discarded hoffers hslot hd herror hlt, fun a hok hnone => ?_,
    fun a i weight hok hheld hready hsettled hleast hmost hroom => ?_,
    fun a i weight hok hheld hready hsettled => ?_⟩
  · have hend := State.endAnswer_of_no_capture hslot hd hok hnone
    have hexec : exec (.answerEnd chars) s = .next (s.endAnswer chars) :=
      State.done_of_offers_nil (s := s.endAnswer chars) (by rw [hend]; exact hoffers)
    refine ⟨s.endAnswer chars, hexec, ?_⟩
    rw [hend]
    exact ⟨rfl, rfl, rfl, rfl⟩
  · have hend := (State.endAnswer_of_capture hslot hd hok hheld hready hsettled).trans
      (State.capture_of_rise (s := s.answered p.head a chars) hleast hmost hroom)
    have hexec : exec (.answerEnd chars) s = .next (s.endAnswer chars) :=
      State.done_of_offers_nil (s := s.endAnswer chars) (by rw [hend]; exact hoffers)
    refine ⟨s.endAnswer chars, hexec, ?_⟩
    rw [hend]
    exact ⟨rfl, rfl⟩
  · have hend := State.endAnswer_of_capture hslot hd hok hheld hready hsettled
    have hframe := State.capture_deliver_frame (s := s.answered p.head a chars) hoffers p.head i weight
    obtain ⟨hremoval, hdrift, hsuspect⟩ :=
      State.capture_delivers (s := s.answered p.head a chars) hoffers p.head i weight
    rw [← hend] at hframe hremoval hdrift hsuspect
    refine ⟨(s.endAnswer chars).deliver, rfl, hframe, hremoval, hdrift, fun reason hreason => hsuspect reason ?_⟩
    rcases hreason with hheavy | hfull | ⟨hfall, hless, hnone, hr⟩
    · exact .inl hheavy
    · exact .inr (.inl hfull)
    · refine .inr (.inr ⟨hfall, hless, ?_, hr⟩)
      rw [Bool.eq_false_iff, ne_eq, ChargeSlot.matchesLast_iff]
      rintro ⟨ply, hlast, hmatch⟩
      exact hnone ply hlast hmatch

/-! ## Expiry (R85) -/

/-- Settles O47: the check runs at a whole second and looks at each slot alone. -/
theorem chargesExpireAtTheirLife : Obligations.ChargesExpireAtTheirLife := by
  intro s hoffers htime
  have hwhole : s.wholeSecond = true := beq_iff_eq.mpr htime
  have hexec : exec .chargeExpired s = .next s.expireCharges.deliver := by
    change (if s.wholeSecond then s.expireCharges else s).done = _
    rw [hwhole]
    rfl
  have hweigh : s.expireCharges.deliver.weigh = s.expireCharges.weigh := State.deliver_weigh _
  refine ⟨_, hexec, ?_, ?_, fun i => ?_⟩
  · apply State.ext_fields <;> simp [State.expireCharges, hoffers]
  · rw [hweigh]
    rfl
  · have hslot : s.expireCharges.weigh.charges[i] = if s.weigh.charges[i].outlived s.time then
        { s.weigh.charges[i] with state := .expired } else s.weigh.charges[i] := getElem_ofFn_fin ..
    rw [hweigh, hslot]
    simp only [ChargeSlot.outlived, Bool.and_eq_true, beq_iff_eq, bne_iff_ne, decide_eq_true_eq, and_assoc]

end Sys2Proof.Machine
end

section
/-! The strokes' phases, and the stroke timers (R61, R100 to R105). -/

namespace Sys2Proof.Machine

/-! ## The sequencer of one daylight -/

theorem State.seq_setSeq (s : State) (d : Fin 4) (q : Sequencer) : (s.setSeq d q).seqs[d] = q :=
  getElem_set_self_fin ..

theorem State.setSeq_setSeq (s : State) (d : Fin 4) (q q' : Sequencer) :
    (s.setSeq d q).setSeq d q' = s.setSeq d q' := by
  simp only [State.setSeq, State.setSeqs, Vector.set_set]

/-! ## A stroke that fails (R61, R105) -/

theorem State.strokeFails_offers (s : State) (d : Fin 4) (reason : FaultReason) :
    (s.strokeFails d reason).offers = s.offers ++ [.cause .demouldFailed (byteOf d.val) reason.code] := by
  simp [State.strokeFails, State.demouldFails, State.release]

/-- The completion of a failed stroke is handed over on a running channel. -/
theorem State.strokeFails_chan {s : State} {d : Fin 4} (h : s.chans[dayChannel d].phase = .running)
    (reason : FaultReason) : (s.strokeFails d reason).chans[dayChannel d].phase = .stamping
      ∧ (s.strokeFails d reason).chans[dayChannel d].completion = some reason.code := by
  obtain ⟨placed, hchan⟩ := State.complete_chan_of_running (s :=
      (((s.setSeq d s.seqs[d].ended).setDay d { s.days[d] with
    state := .faulted, fault := reason, attempts := s.seqs[d].attempts, reserved := false }).release).raise
      .demouldFailed (byteOf d.val) reason.code) h reason.code
  have hfails : (s.strokeFails d reason).chans[dayChannel d] = _ := hchan
  rw [hfails]
  exact ⟨rfl, rfl⟩

/-- A failed stroke, as `Obligations` put it: the sequencer may have moved before it fails. -/
theorem State.strokeFails_failedAt {s u : State} {d : Fin 4} (hdays : u.days[d] = s.days[d])
    (hattempts : u.seqs[d].attempts = s.seqs[d].attempts)
    (hphase : u.chans[dayChannel d].phase = s.chans[dayChannel d].phase) (reason : FaultReason) :
    (u.strokeFails d reason).demouldFailedAt s d reason := by
  refine ⟨?_, ?_, ?_, fun hrun => State.strokeFails_chan (hphase.trans hrun) reason⟩
  · rw [State.strokeFails_seqs, getElem_set_self_fin]
    rfl
  · rw [State.strokeFails_seqs, getElem_set_self_fin]
    rfl
  · rw [State.strokeFails_days, getElem_set_self_fin, hdays, hattempts]

theorem State.demouldFailedAt_congr {t u s : State} {d : Fin 4} {reason : FaultReason} (hseqs : u.seqs[d] = t.seqs[d])
    (hdays : u.days[d] = t.days[d]) (hphase : u.chans[dayChannel d].phase = t.chans[dayChannel d].phase)
    (hcompletion : u.chans[dayChannel d].completion = t.chans[dayChannel d].completion)
    (h : t.demouldFailedAt s d reason) : u.demouldFailedAt s d reason := by
  obtain ⟨hidle, hexpiry, hday, hchan⟩ := h
  exact ⟨by rw [hseqs]; exact hidle, by rw [hseqs]; exact hexpiry, by rw [hdays]; exact hday,
    fun hrun => ⟨by rw [hphase]; exact (hchan hrun).1, by rw [hcompletion]; exact (hchan hrun).2⟩⟩

theorem State.deliver_failedAt {t s : State} {d : Fin 4} {reason : FaultReason} (h : t.demouldFailedAt s d reason) :
    t.deliver.demouldFailedAt s d reason :=
  State.demouldFailedAt_congr (by rw [State.deliver_seqs]) (by rw [State.deliver_days]) (by rw [State.deliver_chans])
    (by rw [State.deliver_chans]) h

/-- The report of a stroke that fails in a step without other reports. -/
theorem State.strokeFails_deliver_att {s : State} (hoffers : s.offers = []) (d : Fin 4) (reason : FaultReason) :
    (s.strokeFails d reason).deliver.att = s.att.offer .demouldFailed (byteOf d.val) reason.code := by
  rw [State.deliver_single (r := .cause .demouldFailed (byteOf d.val) reason.code)
    (by rw [State.strokeFails_offers, hoffers]; rfl), State.setOffers_att, State.setAtt_att,
    (strokeFrame_strokeFails s d reason).att]
  rfl

/-! ## A retraction (R102) -/

/-- The sequencer at entry to RETRACTING. -/
def State.retractingSeq (s : State) (d : Fin 4) (last : Stroke) : Sequencer :=
  { s.seqs[d] with
    phase := .retracting, last := last, expiry := some (s.time + BitVec.ofNat 32 s.seqs[d].stroke) }

theorem State.enterRetracting_of_ejected {s : State} {d : Fin 4} (h : s.level (.ejected d) = true) (last : Stroke) :
    s.enterRetracting d last = s.setSeq d (s.retractingSeq d last) := by
  simp only [State.enterRetracting]
  exact if_pos h

theorem State.enterRetracting_of_home {s : State} {d : Fin 4} (h : s.level (.ejected d) = false) (last : Stroke) :
    s.enterRetracting d last = (s.setSeq d (s.retractingSeq d last)).retractionComplete d := by
  simp only [State.enterRetracting]
  rw [if_neg (by rw [h]; decide)]
  rfl

/-- The sequencer after a failed attempt, with attempts left: in DWELL, or extending again when the dwell is 0. -/
def State.nextAttempt (s : State) (d : Fin 4) : Sequencer :=
  if s.seqs[d].dwell = 0 then { s.seqs[d] with
    phase := .extending, attempts := s.seqs[d].attempts + 1, last := .none
    expiry := some (s.time + BitVec.ofNat 32 s.seqs[d].stroke) }
  else { s.seqs[d] with
    phase := .dwell, expiry := some (s.time + BitVec.ofNat 32 s.seqs[d].dwell) }

theorem State.enterDwell_of_home {s : State} {d : Fin 4} (h : s.level (.ejected d) = false) :
    s.enterDwell d = s.setSeq d (s.nextAttempt d) := by
  simp only [State.enterDwell, State.nextAttempt]
  split
  · have hlevel : (s.setSeq d { s.seqs[d] with
        phase := .dwell, expiry := some (s.after s.seqs[d].dwell) }).level (.ejected d) = false := h
    rw [State.dwellOver, if_neg (by rw [hlevel]; decide), State.enterExtending, State.seq_setSeq, State.setSeq_setSeq]
    rfl
  · rfl

theorem State.retractionComplete_of_left {s : State} {d : Fin 4} (hlast : s.seqs[d].last = .failed)
    (hleft : s.seqs[d].attempts < 1 + s.seqs[d].retries) (hhome : s.level (.ejected d) = false) :
    s.retractionComplete d = s.setSeq d (s.nextAttempt d) := by
  rw [State.retractionComplete, hlast]
  simp only
  rw [if_pos hleft, State.enterDwell_of_home hhome]

theorem State.retractionComplete_of_exhausted {s : State} {d : Fin 4} (hlast : s.seqs[d].last = .failed)
    (hleft : ¬ s.seqs[d].attempts < 1 + s.seqs[d].retries) : s.retractionComplete d = s.strokeFails d .stuck := by
  rw [State.retractionComplete, hlast]
  simp only
  rw [if_neg hleft]

/-! ## The timers (R101, R102, R104, R107) -/

/-- The part after the stroke timer, with EJECTED deasserted and an attempt left. -/
theorem State.strokeTimesOut_of_left {s : State} {d : Fin 4} (hhome : s.level (.ejected d) = false)
    (hleft : s.seqs[d].attempts < 1 + s.seqs[d].retries) : s.strokeTimesOut d
      = (s.raise .ejectorAttemptFailed (byteOf d.val) (byteOf s.seqs[d].attempts)).setSeq d
        ((s.setSeq d (s.retractingSeq d .failed)).nextAttempt d) := by
  rw [State.strokeTimesOut, State.enterRetracting_of_home (by exact hhome), State.retractionComplete_of_left,
    State.setSeq_setSeq]
  · rfl
  · rw [State.seq_setSeq]; rfl
  · rw [State.seq_setSeq]; exact hleft
  · exact hhome

theorem State.nextAttempt_of_retracting (s : State) (d : Fin 4) :
    (s.setSeq d (s.retractingSeq d .failed)).nextAttempt d = if s.seqs[d].dwell = 0 then { s.seqs[d] with
        phase := .extending, last := .none, attempts := s.seqs[d].attempts + 1
        expiry := some (s.time + BitVec.ofNat 32 s.seqs[d].stroke) }
      else { s.seqs[d] with
        phase := .dwell, last := .failed, expiry := some (s.time + BitVec.ofNat 32 s.seqs[d].dwell) } := by
  simp only [State.nextAttempt]
  rw [State.seq_setSeq]
  rfl

/-- A timer that moves the sequencer and raises EJECTOR ATTEMPT FAILED. -/
theorem attemptFailed_delivers {s : State} (hoffers : s.offers = []) (d : Fin 4) (q : Sequencer) (detail : Byte) :
    ((s.raise .ejectorAttemptFailed (byteOf d.val) detail).setSeq d q).deliver = { s with
      seqs := s.seqs.set d q, att := s.att.offer .ejectorAttemptFailed (byteOf d.val) detail } := by
  have hone : ((s.raise .ejectorAttemptFailed (byteOf d.val) detail).setSeq d q).offers
      = [.cause .ejectorAttemptFailed (byteOf d.val) detail] := by
    change s.offers ++ _ = _
    rw [hoffers]
    rfl
  rw [State.deliver_single hone]
  apply State.ext_fields <;> simp [Attention.take, hoffers]

/-- NOT HOME: what the retract timers leave. -/
theorem notHome_delivers {s : State} (hoffers : s.offers = []) (d : Fin 4) :
    let t := (s.strokeFails d .notHome).deliver
    t = { s with
        days := t.days, seqs := t.seqs, hist := t.hist, att := t.att, pass := t.pass, chans := t.chans }
      ∧ t.seqs = s.seqs.set d { s.seqs[d] with phase := .idle, expiry := none }
      ∧ t.days = s.days.set d { s.days[d] with
          state := .faulted, fault := .notHome, attempts := s.seqs[d].attempts, reserved := false }
      ∧ t.hist = { s.hist with reserved := s.hist.reserved - 1 }
      ∧ t.att = s.att.offer .demouldFailed (byteOf d.val) 0x81
      ∧ (s.chans[dayChannel d].phase = .running →
          t.chans[dayChannel d].phase = .stamping ∧ t.chans[dayChannel d].completion = some 0x81) := by
  have hframe := strokeFrame_strokeFails s d .notHome
  have hchoice : (s.strokeFails d .notHome).deliver.choice = s.choice := by
    rw [State.deliver_choice_of_le (by rw [State.strokeFails_offers, hoffers]; simp)]
    simp [State.strokeFails, State.demouldFails, State.release]
  refine ⟨?_, ?_, ?_, ?_, State.strokeFails_deliver_att hoffers d .notHome, fun hrun => ?_⟩
  · apply State.ext_fields <;> simp [hchoice, hoffers, hframe.time, hframe.link, hframe.zones, hframe.weigh,
      hframe.lines,
      hframe.maps, hframe.mem, hframe.pending]
  · rw [State.deliver_seqs, State.strokeFails_seqs]
    rfl
  · rw [State.deliver_days, State.strokeFails_days]
  · rw [State.deliver_hist, State.strokeFails_hist]
  · rw [State.deliver_chans]
    exact State.strokeFails_chan hrun .notHome

/-- Settles O43, by the phase whose timer runs out. -/
theorem strokeTimers : Obligations.StrokeTimers := by
  intro s d hoffers
  have hstroke (hdue : s.timerDue d .extending = true) :
      exec (.strokeTimeout d) s = .next (s.strokeTimesOut d).deliver := by
    change (if s.timerDue d .extending then s.strokeTimesOut d else s).done = _
    rw [hdue]
    rfl
  refine ⟨fun hdue hejected => ?_, fun hdue hhome hleft hdwell => ?_, fun hdue hhome hleft hdwell => ?_,
    fun hdue hhome hleft => ?_, fun c hcases => ?_, fun hdue hhome => ?_⟩
  · refine ⟨_, hstroke hdue, ?_⟩
    rw [State.strokeTimesOut, State.enterRetracting_of_ejected (by exact hejected), attemptFailed_delivers hoffers]
    exact ⟨rfl, rfl, rfl⟩
  · refine ⟨_, hstroke hdue, ?_⟩
    rw [State.strokeTimesOut_of_left hhome hleft, attemptFailed_delivers hoffers, State.nextAttempt_of_retracting,
      if_neg hdwell]
    exact ⟨rfl, rfl, rfl⟩
  · refine ⟨_, hstroke hdue, ?_⟩
    rw [State.strokeTimesOut_of_left hhome hleft, attemptFailed_delivers hoffers, State.nextAttempt_of_retracting,
      if_pos hdwell]
    exact ⟨rfl, rfl, rfl⟩
  · refine ⟨_, hstroke hdue, ?_⟩
    have hfails : s.strokeTimesOut d = ((s.raise .ejectorAttemptFailed (byteOf d.val)
        (byteOf s.seqs[d].attempts)).setSeq d (s.retractingSeq d .failed)).strokeFails d .stuck := by
      rw [State.strokeTimesOut, State.enterRetracting_of_home (by exact hhome), State.retractionComplete_of_exhausted]
      · rfl
      · rw [State.seq_setSeq]; rfl
      · rw [State.seq_setSeq]; exact hleft
    rw [hfails, State.deliver_seqs, State.deliver_days, State.deliver_hist, State.strokeFails_seqs,
      State.strokeFails_days, State.strokeFails_hist, State.seq_setSeq, getElem_set_self_fin]
    exact ⟨rfl, rfl, rfl⟩
  · have hrow : exec c s = .next (s.strokeFails d .notHome).deliver := by
      rcases hcases with ⟨rfl, hdue⟩ | ⟨rfl, hdue⟩ | ⟨rfl, hdue, hejected⟩
      · change (if s.timerDue d .retracting then s.strokeFails d .notHome else s).done = _
        rw [hdue]
        rfl
      · change (if s.timerDue d .finalRetract then s.strokeFails d .notHome else s).done = _
        rw [hdue]
        rfl
      · change (if s.timerDue d .dwell then s.dwellOver d else s).done = _
        rw [hdue, State.dwellOver, hejected]
        rfl
    exact ⟨_, hrow, notHome_delivers hoffers d⟩
  · have hrow : exec (.dwellExpiry d) s = .next (s.enterExtending d) := by
      change (if s.timerDue d .dwell then s.dwellOver d else s).done = _
      rw [hdue, State.dwellOver, hhome]
      exact State.done_of_offers_nil (s := s.enterExtending d) hoffers
    exact ⟨_, hrow, rfl, rfl⟩

end Sys2Proof.Machine
end

section
/-! Sampling (R92, R93). -/

namespace Sys2Proof.Machine

/-! ## The lines of a sample -/

/-- A line whose debounced level has changed. -/
def Line.toggled (l : Line) : Line := { l with level := !l.level }

/-- The report of a change leaves the lines as they stand, and time, the link, the zones, the weighing, the maps and
memory. -/
theorem strokeFrame_changeLine (s : State) (n : Fin 32) :
    StrokeFrame (s.setLine n s.lines[n].toggled) (s.changeLine n) :=
  strokeFrame_reportChange _ _ _

theorem StrokeFrame.setLines {s t : State} (h : StrokeFrame s t) (x : Vector Line 32) :
    StrokeFrame (s.setLines x) (t.setLines x) :=
  ⟨h.time, h.link, h.zones, h.weigh, rfl, h.att, h.maps, h.mem, h.pending⟩

theorem strokeFrame_setChoice (s : State) (n : Nat) : StrokeFrame s (s.setChoice n) :=
  ⟨rfl, rfl, rfl, rfl, rfl, rfl, rfl, rfl, rfl⟩

/-- The changing lines change their levels, each once, and no other line changes. -/
theorem strokeFrame_foldl_changeLine : ∀ (l : List (Fin 32)) (s : State), l.Nodup →
    ∃ x : Vector Line 32, StrokeFrame (s.setLines x) (l.foldl State.changeLine s)
      ∧ ∀ n : Fin 32, x[n] = if n ∈ l then s.lines[n].toggled else s.lines[n]
  | [], s, _ => ⟨s.lines, .refl s, fun n => by simp⟩
  | m :: l, s, hnodup => by
    obtain ⟨hm, hl⟩ := List.nodup_cons.mp hnodup
    obtain ⟨x, hframe, hx⟩ := strokeFrame_foldl_changeLine l (s.changeLine m) hl
    refine ⟨x, ((strokeFrame_changeLine s m).setLines x).trans hframe, fun n => ?_⟩
    have hlines : (s.changeLine m).lines = s.lines.set m s.lines[m].toggled := (strokeFrame_changeLine s m).lines
    rw [hx, hlines, getElem_set_fin]
    by_cases hn : n = m
    · subst hn
      simp [hm]
    · simp [hn]

theorem State.changing_nodup (s : State) (pins : BitVec 32) : (s.changing pins).Nodup :=
  (List.nodup_finRange 32).filter _

theorem State.mem_changing {s : State} {pins : BitVec 32} {n : Fin 32} :
    n ∈ s.changing pins ↔ s.differs pins n = true ∧ 4 ≤ s.lines[n].run := by
  simp [State.changing]

theorem State.changeOrder_perm (s : State) (pins : BitVec 32) : (s.changeOrder pins).Perm (s.changing pins) :=
  arrange_perm _ _

/-- The part with the run counts of a sample moved. -/
def State.counted (s : State) (pins : BitVec 32) : State :=
  (s.setTime (s.time + 1)).setLines (Vector.ofFn fun n => { s.lines[n] with run := s.runAfter pins n })

theorem State.counted_line (s : State) (pins : BitVec 32) (n : Fin 32) :
    (s.counted pins).lines[n] = { s.lines[n] with run := s.runAfter pins n } := getElem_ofFn_fin ..

/-- The sample: the changing lines are taken in turn, and more than one uses up a free value (log 10). -/
theorem State.sample_eq (s : State) (pins : BitVec 32) : s.sample pins
    = if 2 ≤ (s.changing pins).length then
        ((s.changeOrder pins).foldl State.changeLine (s.counted pins)).setChoice
          (((s.changeOrder pins).foldl State.changeLine (s.counted pins)).choice + 1)
      else (s.changeOrder pins).foldl State.changeLine (s.counted pins) := rfl

/-- R92: the line after a sample. -/
def State.lineAfter (s : State) (pins : BitVec 32) (n : Fin 32) : Line :=
  if n ∈ s.changing pins then ({ s.lines[n] with run := s.runAfter pins n } : Line).toggled
  else { s.lines[n] with run := s.runAfter pins n }

theorem State.setLines_setLines (s : State) (x y : Vector Line 32) : (s.setLines x).setLines y = s.setLines y := rfl

theorem State.sample_frame (s : State) (pins : BitVec 32) :
    ∃ x : Vector Line 32, StrokeFrame ((s.setTime (s.time + 1)).setLines x) (s.sample pins)
      ∧ ∀ n : Fin 32, x[n] = s.lineAfter pins n := by
  have hperm := s.changeOrder_perm pins
  obtain ⟨x, hframe, hx⟩ := strokeFrame_foldl_changeLine (s.changeOrder pins) (s.counted pins)
    (hperm.nodup_iff.mpr (s.changing_nodup pins))
  rw [State.counted, State.setLines_setLines, ← State.counted] at hframe
  refine ⟨x, ?_, fun n => ?_⟩
  · rw [State.sample_eq]
    split
    · exact hframe.trans (strokeFrame_setChoice _ _)
    · exact hframe
  · rw [hx, s.counted_line, State.lineAfter]
    simp only [hperm.mem_iff]

theorem State.sample_line (s : State) (pins : BitVec 32) (n : Fin 32) :
    (s.sample pins).deliver.lines[n] = s.lineAfter pins n := by
  obtain ⟨x, hframe, hx⟩ := s.sample_frame pins
  have hlines : (s.sample pins).deliver.lines = x := (State.deliver_lines _).trans hframe.lines
  rw [hlines, hx]

theorem State.differs_iff {s : State} {pins : BitVec 32} {n : Fin 32} : s.differs pins n = true ↔
    s.cell.lines[n].sampled = true ∧ s.cell.lines[n].logical (pins.getLsbD n.val) ≠ s.lines[n].level := by
  simp [State.differs]

/-- R92: the line after a sample, by what the sample is to it. -/
theorem State.lineAfter_cases (s : State) (pins : BitVec 32) (n : Fin 32) :
    (s.cell.lines[n].sampled = false → s.lineAfter pins n = s.lines[n])
      ∧ (s.cell.lines[n].sampled = true → s.cell.lines[n].logical (pins.getLsbD n.val) = s.lines[n].level →
        s.lineAfter pins n = { s.lines[n] with run := 0 })
      ∧ (s.cell.lines[n].sampled = true → s.cell.lines[n].logical (pins.getLsbD n.val) ≠ s.lines[n].level →
        s.lines[n].run < 4 → s.lineAfter pins n = { s.lines[n] with run := s.lines[n].run + 1 })
      ∧ (s.cell.lines[n].sampled = true → s.cell.lines[n].logical (pins.getLsbD n.val) ≠ s.lines[n].level →
        4 ≤ s.lines[n].run →
        s.lineAfter pins n = { s.lines[n] with level := s.cell.lines[n].logical (pins.getLsbD n.val), run := 0 }) := by
  refine ⟨fun hoff => ?_, fun hon hsame => ?_, fun hon hdiff hfew => ?_, fun hon hdiff hfull => ?_⟩
  · have hno : ¬ s.differs pins n = true := fun h => by
      rw [(State.differs_iff.mp h).1] at hoff
      cases hoff
    rw [State.lineAfter, if_neg fun h => hno (State.mem_changing.mp h).1, State.runAfter, if_neg hno,
      if_neg (by rw [hoff]; decide)]
  · have hno : ¬ s.differs pins n = true := fun h => (State.differs_iff.mp h).2 hsame
    rw [State.lineAfter, if_neg fun h => hno (State.mem_changing.mp h).1, State.runAfter, if_neg hno, if_pos hon]
  · have hyes : s.differs pins n = true := State.differs_iff.mpr ⟨hon, hdiff⟩
    rw [State.lineAfter, if_neg fun h => absurd (State.mem_changing.mp h).2 (Nat.not_le.mpr hfew), State.runAfter,
      if_pos hyes, if_neg (Nat.not_le.mpr hfew)]
  · have hyes : s.differs pins n = true := State.differs_iff.mpr ⟨hon, hdiff⟩
    rw [State.lineAfter, if_pos (State.mem_changing.mpr ⟨hyes, hfull⟩), State.runAfter, if_pos hyes, if_pos hfull,
      Line.toggled, Bool.eq_not_of_ne hdiff]

theorem execDebouncedChange_of_changing {s : State} {pins : BitVec 32} {n : Fin 32} (h : n ∈ s.changing pins) :
    exec (.debouncedChange n pins) s = .next (s.sample pins).deliver := by
  change (if (s.changing pins).contains n then s.sample pins else s).done = _
  rw [if_pos (List.contains_iff_mem.mpr h)]
  rfl

/-- Settles O41: each line by what the sample is to it, whatever the changes report. -/
theorem fifthSampleChangesTheLevel : Obligations.FifthSampleChangesTheLevel := by
  intro s pins
  obtain ⟨x, hframe, -⟩ := s.sample_frame pins
  refine ⟨(s.sample pins).deliver, rfl, ?_, fun n => ?_⟩
  · apply State.ext_fields <;> simp [hframe.time, hframe.link, hframe.zones, hframe.weigh, hframe.maps, hframe.mem,
      hframe.pending]
  · obtain ⟨hoff, hsame, hfew, hfull⟩ := s.lineAfter_cases pins n
    rw [s.sample_line pins n]
    exact ⟨hoff, hsame, hfew, fun hon hdiff hrun => ⟨hfull hon hdiff hrun,
      execDebouncedChange_of_changing (State.mem_changing.mpr ⟨State.differs_iff.mpr ⟨hon, hdiff⟩, hrun⟩)⟩⟩

end Sys2Proof.Machine
end

section
/-! The debounced changes of CLOSED and EJECTED (R49, R50, R60, R61, R93, R101 to R105). -/

namespace Sys2Proof.Machine

/-! ## A sample with one changing line -/

/-- The part at a sample, the lines as the sample leaves them. -/
def State.moved (s : State) (x : Vector Line 32) : State := (s.setTime (s.time + 1)).setLines x

theorem State.level_of_line {s : State} {f : LineFunction} {n : Fin 32} (h : s.cell.lineOf f = some n) :
    s.level f = s.lines[n].level := by
  rw [State.level, h]

/-- With one changing line the sample is its change, reported by its function; no other function's level moves. -/
theorem debouncedChange_single {s : State} {pins : BitVec 32} {n : Fin 32} (hchanging : s.changing pins = [n]) :
    ∃ x : Vector Line 32, exec (.debouncedChange n pins) s
        = .next ((s.moved x).reportChange s.cell.lines[n].function? (!s.lines[n].level)).deliver
      ∧ (∀ f, s.cell.lines[n].function? ≠ some f → (s.moved x).level f = s.level f)
      ∧ ∀ f, s.cell.lineOf f = some n → (s.moved x).level f = !s.lines[n].level := by
  have horder : s.changeOrder pins = [n] := by
    have hperm := s.changeOrder_perm pins
    rw [hchanging] at hperm
    exact List.perm_singleton.mp hperm
  obtain ⟨x, hcounted, hlevels⟩ : ∃ x : Vector Line 32, s.counted pins = s.moved x
      ∧ ∀ m : Fin 32, x[m].level = s.lines[m].level :=
    ⟨(s.counted pins).lines, rfl, fun m => by rw [s.counted_line]⟩
  have hsample : s.sample pins = (s.moved x).changeLine n := by
    rw [State.sample_eq, horder, hchanging, hcounted]
    rfl
  have hmoved : s.moved (x.set n x[n].toggled) = (s.moved x).setLine n x[n].toggled := rfl
  refine ⟨x.set n x[n].toggled, ?_, fun f hf => ?_, fun f hf => ?_⟩
  · rw [execDebouncedChange_of_changing (by rw [hchanging]; exact List.mem_singleton.mpr rfl), hsample, ← hlevels n]
    rfl
  · rw [hmoved, State.level_setLine_of_ne _ _ (by exact hf)]
    exact State.level_of_levels (s := s) (t := s.moved x) hlevels rfl f
  · rw [State.level_of_line (s := s.moved (x.set n x[n].toggled)) hf, ← hlevels n]
    exact congrArg Line.level (getElem_set_self_fin x n _)

/-! ## CLOSED (R49, R50, R103) -/

theorem State.pressCloses_of_loaded {s : State} {d : Fin 4} (h : s.days[d].state = .loaded) : s.pressCloses d
    = s.setDay d { s.days[d] with
        state := .curing
        record := s.days[d].record.map fun r => { r with cureStart := some s.time } } := by
  rw [State.pressCloses, h]

theorem State.pressCloses_of_held {s : State} {d : Fin 4} (h : s.days[d].state = .held) :
    s.pressCloses d = s.setDay d { s.days[d] with state := .curing } := by
  rw [State.pressCloses, h]

theorem State.pressCloses_of_other {s : State} {d : Fin 4} (hloaded : s.days[d].state ≠ .loaded)
    (hheld : s.days[d].state ≠ .held) : s.pressCloses d = s := by
  unfold State.pressCloses
  split
  · next h => exact absurd h hloaded
  · next h => exact absurd h hheld
  all_goals rfl

theorem State.pressOpens_of_curing {s : State} {d : Fin 4} (h : s.days[d].state = .curing) : s.pressOpens d
    = (s.setDay d { s.days[d] with state := .held, interruptions := min 255 (s.days[d].interruptions + 1) }).raise
      .cureInterrupted (byteOf d.val) (byteOf (min 255 (s.days[d].interruptions + 1))) := by
  rw [State.pressOpens, h]

theorem State.pressOpens_of_other {s : State} {d : Fin 4} (h : s.days[d].state ≠ .curing) : s.pressOpens d = s := by
  unfold State.pressOpens
  split
  · next hc => exact absurd hc h
  all_goals rfl

theorem State.pressCloses_offers (s : State) (d : Fin 4) : (s.pressCloses d).offers = s.offers := by
  unfold State.pressCloses
  split <;> rfl

theorem State.stopEvent_of_not_stoppable {s : State} {d : Fin 4} (h : s.seqs[d].phase.stoppable = false)
    (reason : StopReason) : s.stopEvent d reason = s := by
  rw [State.stopEvent, if_neg (by rw [h]; decide)]

/-- R103, R104: a stop event on a stroke without a reason, by EJECTED. -/
theorem State.stopEvent_cases {s : State} {d : Fin 4} (hstoppable : s.seqs[d].phase.stoppable = true)
    (hnone : s.seqs[d].stop = .none) (reason : StopReason) :
    let q : Sequencer := { s.seqs[d] with
      phase := .finalRetract, stop := reason, expiry := some (s.time + BitVec.ofNat 32 s.seqs[d].stroke) }
    (s.level (.ejected d) = true → s.stopEvent d reason = s.setSeq d q)
      ∧ (s.level (.ejected d) = false → s.stopEvent d reason = (s.setSeq d q).strokeFails d reason.fault) := by
  have hseq : s.stoppedSeq d reason = { s.seqs[d] with
      phase := .finalRetract, stop := reason, expiry := some (s.time + BitVec.ofNat 32 s.seqs[d].stroke) } := by
    rw [State.stoppedSeq, if_pos hnone]
  rw [State.stopEvent_of_stoppable hstoppable, hseq]
  exact ⟨fun h => if_pos h, fun h => if_neg (by rw [h]; decide)⟩

/-- The first part of O42: CLOSED of a daylight without a running sequence. -/
theorem closedChange_idle {s : State} {pins : BitVec 32} {n : Fin 32} {d : Fin 4} (hoffers : s.offers = [])
    (hchanging : s.changing pins = [n]) (hfunction : s.cell.lines[n].function? = some (.closed d))
    (hidle : s.seqs[d].phase = .idle) :
    ∃ t, exec (.debouncedChange n pins) s = .next t ∧ t.seqs = s.seqs
      ∧ (s.lines[n].level = false → t.att = s.att
          ∧ (s.days[d].state = .loaded → t.days = s.days.set d { s.days[d] with
              state := .curing
              record := s.days[d].record.map fun r => { r with cureStart := some (s.time + 1) } })
          ∧ (s.days[d].state = .held → t.days = s.days.set d { s.days[d] with state := .curing })
          ∧ (s.days[d].state ≠ .loaded → s.days[d].state ≠ .held → t.days = s.days))
      ∧ (s.lines[n].level = true →
          (s.days[d].state = .curing → t.days = s.days.set d { s.days[d] with
              state := .held, interruptions := min 255 (s.days[d].interruptions + 1) }
            ∧ t.att = s.att.offer .cureInterrupted (byteOf d.val) (byteOf (min 255 (s.days[d].interruptions + 1))))
          ∧ (s.days[d].state ≠ .curing → t.days = s.days ∧ t.att = s.att)) := by
  obtain ⟨x, hexec, -, -⟩ := debouncedChange_single hchanging
  rw [hfunction] at hexec
  cases hlevel : s.lines[n].level with
  | false =>
    have hreport : (s.moved x).reportChange (some (.closed d)) (!false) = (s.moved x).pressCloses d :=
      State.stopEvent_of_not_stoppable (s := (s.moved x).pressCloses d)
        (by rw [State.pressCloses_seqs]; exact congrArg Phase.stoppable hidle) .closedDuring
    rw [hlevel, hreport, State.deliver_nil (by rw [State.pressCloses_offers]; exact hoffers)] at hexec
    refine ⟨_, hexec, State.pressCloses_seqs _ d, fun _ => ⟨(strokeFrame_pressCloses _ d).att, fun hloaded => ?_,
      fun hheld => ?_, fun hloaded hheld => ?_⟩, fun h => by cases h⟩
    · rw [State.pressCloses_of_loaded (by exact hloaded)]
      rfl
    · rw [State.pressCloses_of_held (by exact hheld)]
      rfl
    · rw [State.pressCloses_of_other (s := s.moved x) hloaded hheld]
      rfl
  | true =>
    have hreport : (s.moved x).reportChange (some (.closed d)) (!true) = (s.moved x).pressOpens d := rfl
    rw [hlevel, hreport] at hexec
    refine ⟨_, hexec, ?_, (fun h => by cases h), fun _ => ⟨fun hcuring => ?_, fun hother => ?_⟩⟩
    · rw [State.deliver_seqs, State.pressOpens_seqs]
      rfl
    · have hone : ((s.moved x).pressOpens d).offers = [.cause .cureInterrupted (byteOf d.val)
          (byteOf (min 255 (s.days[d].interruptions + 1)))] := by
        rw [State.pressOpens_of_curing (by exact hcuring), State.raise_offers]
        exact congrArg (· ++ _) hoffers
      rw [State.deliver_single hone, State.pressOpens_of_curing (by exact hcuring)]
      exact ⟨rfl, rfl⟩
    · rw [State.pressOpens_of_other (by exact hother), State.deliver_nil (by exact hoffers)]
      exact ⟨rfl, rfl⟩

/-- The second part of O42: CLOSED asserts in a stroke. -/
theorem closedChange_stops {s : State} {pins : BitVec 32} {n : Fin 32} {d : Fin 4} (hoffers : s.offers = [])
    (hchanging : s.changing pins = [n]) (hfunction : s.cell.lines[n].function? = some (.closed d))
    (hlevel : s.lines[n].level = false) (hstate : s.days[d].state = .demoulding)
    (hstoppable : s.seqs[d].phase.stoppable = true) (hnone : s.seqs[d].stop = .none) :
    ∃ t, exec (.debouncedChange n pins) s = .next t
      ∧ (s.level (.ejected d) = true → t.days = s.days ∧ t.att = s.att
          ∧ t.seqs = s.seqs.set d { s.seqs[d] with
              phase := .finalRetract, stop := .closedDuring
              expiry := some (s.time + 1 + BitVec.ofNat 32 s.seqs[d].stroke) })
      ∧ (s.level (.ejected d) = false → t.demouldFailedAt s d .closedDuring ∧ t.seqs[d].stop = .closedDuring
          ∧ t.att = s.att.offer .demouldFailed (byteOf d.val) 0x84) := by
  obtain ⟨x, hexec, hother, -⟩ := debouncedChange_single hchanging
  have hejected : (s.moved x).level (.ejected d) = s.level (.ejected d) := hother _ (by rw [hfunction]; simp)
  have hreport : (s.moved x).reportChange (some (.closed d)) (!false) = (s.moved x).stopEvent d .closedDuring := by
    change ((s.moved x).pressCloses d).stopEvent d .closedDuring = _
    rw [State.pressCloses_of_other (s := s.moved x) (by rw [show (s.moved x).days[d].state = _ from hstate]; decide)
      (by rw [show (s.moved x).days[d].state = _ from hstate]; decide)]
  obtain ⟨hwaits, hfails⟩ := State.stopEvent_cases (s := s.moved x) hstoppable hnone .closedDuring
  rw [hfunction, hlevel, hreport] at hexec
  refine ⟨_, hexec, fun hin => ?_, fun hhome => ?_⟩
  · rw [hwaits (hejected.trans hin), State.deliver_nil (by exact hoffers)]
    exact ⟨rfl, rfl, rfl⟩
  · rw [hfails (hejected.trans hhome)]
    refine ⟨State.deliver_failedAt (State.strokeFails_failedAt (s := s) (u := (s.moved x).setSeq d _) rfl ?_ rfl _), ?_,
      State.strokeFails_deliver_att (s := (s.moved x).setSeq d _) hoffers d .closedDuring⟩
    · rw [State.seq_setSeq]
      rfl
    · rw [State.deliver_seqs, State.strokeFails_seqs, getElem_set_self_fin, State.seq_setSeq]
      rfl

/-! ## EJECTED (R60, R101, R102, R104) -/

/-- R60: the stamp goes ahead of the record's words, or behind them (log 11). -/
theorem State.demouldSucceeds_cases (s : State) (d : Fin 4) (m : Nat) :
    s.demouldSucceeds d m = ((((s.setDay d { s.days[d] with attempts := m, fault := .none }).finish (dayChannel d)
        0x02).placeStamp (dayChannel d)).closeRecord d .released).setChoice (s.choice + 1)
      ∨ s.demouldSucceeds d m = ((((s.setDay d { s.days[d] with attempts := m, fault := .none }).finish (dayChannel d)
        0x02).closeRecord d .released).placeStamp (dayChannel d)).setChoice (s.choice + 1) := by
  simp only [State.demouldSucceeds]
  split
  · exact .inl rfl
  · exact .inr rfl

/-- R60: what a success leaves of the History Unit. -/
theorem State.demouldSucceeds_hist {s : State} {d : Fin 4} {r : OpenRecord} (h : s.days[d].record = some r) (m : Nat) :
    ∃ a f, (s.demouldSucceeds d m).hist = { s.hist.take (recordBytes d { s.days[d] with
      attempts := m, fault := .none } r .released s.time s.maps.generation) with append := a, ringFull := f } := by
  generalize hday : ({ s.days[d] with attempts := m, fault := .none } : Daylight) = x
  have hrecord : x.record = some r := by rw [← hday]; exact h
  simp only [State.demouldSucceeds, hday]
  split
  · obtain ⟨a, f, hclose⟩ := State.closeRecord_hist_of_record
      (s := ((s.setDay d x).finish (dayChannel d) 0x02).placeStamp
      (dayChannel d)) (d := d) (r := r) (by simp [hrecord]) .released
    exact ⟨a, f, by simpa using hclose⟩
  · obtain ⟨a, f, hclose⟩ := State.closeRecord_hist_of_record (s := (s.setDay d x).finish (dayChannel d) 0x02) (d := d)
      (r := r) (by simp [hrecord]) .released
    exact ⟨a, f, by simpa using hclose⟩

/-- R60: DONE is handed over on a running channel. -/
theorem State.demouldSucceeds_chan {s : State} {d : Fin 4} (h : s.chans[dayChannel d].phase = .running) (m : Nat) :
    (s.demouldSucceeds d m).chans[dayChannel d].phase = .stamping
      ∧ (s.demouldSucceeds d m).chans[dayChannel d].completion = some 0x02 := by
  have hfinish : ((s.setDay d { s.days[d] with attempts := m, fault := .none }).finish
      (dayChannel d) 0x02).chans[dayChannel d]
      = { s.chans[dayChannel d] with phase := .stamping, completion := some 0x02 } := by
    rw [State.finish_of_running (s := s.setDay d _) h, State.setChan_chans, getElem_set_self_fin]
    rfl
  rcases s.demouldSucceeds_cases d m with h | h
  · obtain ⟨placed, hchan⟩ := ((s.setDay d { s.days[d] with attempts := m, fault := .none }).finish (dayChannel d)
      0x02).placeStamp_chan (dayChannel d) (dayChannel d)
    rw [h, State.setChoice_chans, State.closeRecord_chans, hchan, hfinish]
    exact ⟨rfl, rfl⟩
  · obtain ⟨placed, hchan⟩ := (((s.setDay d { s.days[d] with attempts := m, fault := .none }).finish (dayChannel d)
      0x02).closeRecord d .released).placeStamp_chan (dayChannel d) (dayChannel d)
    rw [h, State.setChoice_chans, hchan, State.closeRecord_chans, hfinish]
    exact ⟨rfl, rfl⟩

/-- A success: the sequencer idle, the daylight VACANT, the record in the backlog, DONE handed over (R60, R105). -/
theorem strokeSucceeds_delivers {s : State} {d : Fin 4} {r : OpenRecord} (h : s.days[d].record = some r) :
    let t := (s.strokeSucceeds d).deliver
    t.seqs = s.seqs.set d { s.seqs[d] with phase := .idle, expiry := none }
      ∧ t.days = s.days.set d { s.days[d] with
          state := .vacant, fault := .none, attempts := s.seqs[d].attempts, record := none, reserved := false }
      ∧ t.hist.backlog = s.hist.backlog.set s.hist.fill
          (recordBytes d { s.days[d] with fault := .none, attempts := s.seqs[d].attempts } r .released s.time
            s.maps.generation)
      ∧ t.hist.fill = s.hist.fill + 1 ∧ t.hist.occupied = s.hist.occupied + 1
      ∧ t.hist.reserved = s.hist.reserved - 1
      ∧ (s.chans[dayChannel d].phase = .running →
          t.chans[dayChannel d].phase = .stamping ∧ t.chans[dayChannel d].completion = some 0x02) := by
  obtain ⟨a, f, hhist⟩ := State.demouldSucceeds_hist (s := s.setSeq d s.seqs[d].ended) h s.seqs[d].attempts
  have hdhist : (s.strokeSucceeds d).deliver.hist = _ := (State.deliver_hist _).trans hhist
  refine ⟨(State.deliver_seqs _).trans (s.strokeSucceeds_seqs d),
    (State.deliver_days _).trans (State.demouldSucceeds_days (s := s.setSeq d s.seqs[d].ended) h _), ?_, ?_, ?_, ?_,
    fun hrun => ?_⟩
  · rw [hdhist]; rfl
  · rw [hdhist]; rfl
  · rw [hdhist]; rfl
  · rw [hdhist]; rfl
  · rw [State.deliver_chans]
    exact State.demouldSucceeds_chan (s := s.setSeq d s.seqs[d].ended) hrun _

theorem State.retractionComplete_of_confirmed {s : State} {d : Fin 4} (h : s.seqs[d].last = .confirmed) :
    s.retractionComplete d = s.strokeSucceeds d := by
  rw [State.retractionComplete, h]

theorem State.ejectedDeasserts_of_retracting {s : State} {d : Fin 4} (h : s.seqs[d].phase = .retracting) :
    s.ejectedDeasserts d = s.retractionComplete d := by
  rw [State.ejectedDeasserts, h]

theorem State.ejectedDeasserts_of_finalRetract {s : State} {d : Fin 4} (h : s.seqs[d].phase = .finalRetract) :
    s.ejectedDeasserts d = s.strokeFails d s.seqs[d].stop.fault := by
  rw [State.ejectedDeasserts, h]

theorem State.ejectedDeasserts_of_other {s : State} {d : Fin 4}
    (h : s.seqs[d].phase = .idle ∨ s.seqs[d].phase = .extending ∨ s.seqs[d].phase = .dwell) :
    s.ejectedDeasserts d = s := by
  rcases h with h | h | h <;> rw [State.ejectedDeasserts, h]

/-- EJECTED asserts, and its level with it (R101). -/
theorem State.ejectedAsserts_eq {s : State} {d : Fin 4} (hlevel : s.level (.ejected d) = true) : s.ejectedAsserts d
    = if s.seqs[d].phase = .extending then s.setSeq d (s.retractingSeq d .confirmed) else s := by
  unfold State.ejectedAsserts
  split
  · next h => rw [if_pos h, State.enterRetracting_of_ejected hlevel]
  all_goals
    next h => rw [h, if_neg (by decide)]

/-- The third part of O42, EJECTED asserting. -/
theorem ejectedChange_asserts {s : State} {d : Fin 4} (x : Vector Line 32) (hoffers : s.offers = [])
    (hlevel : (s.moved x).level (.ejected d) = true) :
    let t := ((s.moved x).ejectedAsserts d).deliver
    t.days = s.days ∧ t.hist = s.hist ∧ t.att = s.att ∧ t.chans = s.chans
      ∧ t.seqs = if s.seqs[d].phase = .extending then s.seqs.set d { s.seqs[d] with
          phase := .retracting, last := .confirmed
          expiry := some (s.time + 1 + BitVec.ofNat 32 s.seqs[d].stroke) } else s.seqs := by
  simp only [State.ejectedAsserts_eq hlevel]
  by_cases hphase : s.seqs[d].phase = .extending
  · rw [if_pos (by exact hphase), if_pos hphase, State.deliver_nil (by exact hoffers)]
    exact ⟨rfl, rfl, rfl, rfl, rfl⟩
  · rw [if_neg (by exact hphase), if_neg hphase, State.deliver_nil (by exact hoffers)]
    exact ⟨rfl, rfl, rfl, rfl, rfl⟩

/-- The third part of O42, EJECTED deasserting. -/
theorem ejectedChange_deasserts {s : State} {d : Fin 4} (x : Vector Line 32) (hoffers : s.offers = [])
    (hlevel : (s.moved x).level (.ejected d) = false) :
    let t := ((s.moved x).ejectedDeasserts d).deliver
    (s.seqs[d].phase = .retracting → s.seqs[d].last = .confirmed → ∀ r, s.days[d].record = some r →
        t.seqs = s.seqs.set d { s.seqs[d] with phase := .idle, expiry := none }
        ∧ t.days = s.days.set d { s.days[d] with
            state := .vacant, fault := .none, attempts := s.seqs[d].attempts, record := none, reserved := false }
        ∧ t.hist.backlog = s.hist.backlog.set s.hist.fill
            (recordBytes d { s.days[d] with fault := .none, attempts := s.seqs[d].attempts } r .released
              (s.time + 1) s.maps.generation)
        ∧ t.hist.fill = s.hist.fill + 1 ∧ t.hist.occupied = s.hist.occupied + 1
        ∧ t.hist.reserved = s.hist.reserved - 1
        ∧ (s.chans[dayChannel d].phase = .running →
            t.chans[dayChannel d].phase = .stamping ∧ t.chans[dayChannel d].completion = some 0x02))
      ∧ (s.seqs[d].phase = .retracting → s.seqs[d].last = .failed →
          (s.seqs[d].attempts < 1 + s.seqs[d].retries → t.days = s.days ∧ t.hist = s.hist ∧ t.att = s.att
            ∧ t.seqs = s.seqs.set d (if s.seqs[d].dwell = 0 then { s.seqs[d] with
                phase := .extending, attempts := s.seqs[d].attempts + 1, last := .none
                expiry := some (s.time + 1 + BitVec.ofNat 32 s.seqs[d].stroke) }
              else { s.seqs[d] with
                phase := .dwell, expiry := some (s.time + 1 + BitVec.ofNat 32 s.seqs[d].dwell) }))
          ∧ (¬ s.seqs[d].attempts < 1 + s.seqs[d].retries → t.demouldFailedAt s d .stuck
            ∧ t.att = s.att.offer .demouldFailed (byteOf d.val) 0x80))
      ∧ (s.seqs[d].phase = .finalRetract → t.demouldFailedAt s d s.seqs[d].stop.fault
          ∧ t.att = s.att.offer .demouldFailed (byteOf d.val) s.seqs[d].stop.fault.code)
      ∧ (s.seqs[d].phase = .idle ∨ s.seqs[d].phase = .extending ∨ s.seqs[d].phase = .dwell →
          t.seqs = s.seqs ∧ t.days = s.days ∧ t.hist = s.hist ∧ t.att = s.att ∧ t.chans = s.chans) := by
  refine ⟨fun hphase hlast r hrecord => ?_, fun hphase hlast => ⟨fun hleft => ?_, fun hleft => ?_⟩, fun hphase => ?_,
    fun hphase => ?_⟩
  · rw [State.ejectedDeasserts_of_retracting (by exact hphase), State.retractionComplete_of_confirmed (by exact hlast)]
    exact strokeSucceeds_delivers (s := s.moved x) hrecord
  · rw [State.ejectedDeasserts_of_retracting (by exact hphase),
      State.retractionComplete_of_left (by exact hlast) (by exact hleft) hlevel, State.deliver_nil (by exact hoffers)]
    exact ⟨rfl, rfl, rfl, rfl⟩
  · rw [State.ejectedDeasserts_of_retracting (by exact hphase),
      State.retractionComplete_of_exhausted (by exact hlast) (by exact hleft)]
    exact ⟨State.deliver_failedAt (State.strokeFails_failedAt (s := s) (u := s.moved x) rfl rfl rfl .stuck),
      State.strokeFails_deliver_att (s := s.moved x) hoffers d .stuck⟩
  · rw [State.ejectedDeasserts_of_finalRetract (by exact hphase)]
    exact ⟨State.deliver_failedAt (State.strokeFails_failedAt (s := s) (u := s.moved x) rfl rfl rfl _),
      State.strokeFails_deliver_att (s := s.moved x) hoffers d _⟩
  · rw [State.ejectedDeasserts_of_other (by exact hphase), State.deliver_nil (by exact hoffers)]
    exact ⟨rfl, rfl, rfl, rfl, rfl⟩

end Sys2Proof.Machine
end

section
/-! CELL STOP (R93, R94, R103, R104), and the statement on the three safety and stroke lines. -/

namespace Sys2Proof.Machine

/-! ## A stop event touches its own daylight -/

/-- The sequencer, the context and the phase and completion of the channel of daylight `d` stand as they did. -/
structure SameAt (d : Fin 4) (s t : State) : Prop where
  seq : t.seqs[d] = s.seqs[d]
  day : t.days[d] = s.days[d]
  phase : t.chans[dayChannel d].phase = s.chans[dayChannel d].phase
  completion : t.chans[dayChannel d].completion = s.chans[dayChannel d].completion

theorem SameAt.refl (d : Fin 4) (s : State) : SameAt d s s := ⟨rfl, rfl, rfl, rfl⟩

theorem SameAt.trans {d : Fin 4} {s t u : State} (h : SameAt d s t) (h' : SameAt d t u) : SameAt d s u :=
  ⟨h'.seq.trans h.seq, h'.day.trans h.day, h'.phase.trans h.phase, h'.completion.trans h.completion⟩

theorem dayChannel_injective {d e : Fin 4} (h : dayChannel d = dayChannel e) : d = e :=
  Fin.ext (congrArg (fun c : Fin 10 => c.val) h)

theorem sameAt_setSeq {d e : Fin 4} (hne : d ≠ e) (s : State) (q : Sequencer) : SameAt d s (s.setSeq e q) :=
  ⟨(getElem_set_fin _ _ _ _).trans (if_neg hne), rfl, rfl, rfl⟩

theorem sameAt_setDay {d e : Fin 4} (hne : d ≠ e) (s : State) (x : Daylight) : SameAt d s (s.setDay e x) :=
  ⟨rfl, (getElem_set_fin _ _ _ _).trans (if_neg hne), rfl, rfl⟩

theorem sameAt_complete {d e : Fin 4} (hne : d ≠ e) (s : State) (code : Byte) :
    SameAt d s (s.complete (dayChannel e) code) := by
  have hchan : dayChannel d ≠ dayChannel e := fun h => hne (dayChannel_injective h)
  have hfinish : (s.finish (dayChannel e) code).chans[dayChannel d] = s.chans[dayChannel d] := by
    unfold State.finish
    split
    · exact (getElem_set_fin _ _ _ _).trans (if_neg hchan)
    · rfl
  obtain ⟨placed, hplace⟩ := (s.finish (dayChannel e) code).placeStamp_chan (dayChannel e) (dayChannel d)
  have hcomplete : (s.complete (dayChannel e) code).chans[dayChannel d]
      = { s.chans[dayChannel d] with placed := placed } := by
    rw [State.complete, hplace, hfinish]
  exact ⟨by rw [State.complete_seqs], by rw [State.complete_days], by rw [hcomplete], by rw [hcomplete]⟩

theorem sameAt_strokeFails {d e : Fin 4} (hne : d ≠ e) (s : State) (reason : FaultReason) :
    SameAt d s (s.strokeFails e reason) := by
  refine .trans ?_ (sameAt_complete hne _ _)
  have hstart := (sameAt_setSeq hne s s.seqs[e].ended).trans (sameAt_setDay hne (s.setSeq e s.seqs[e].ended)
    { s.days[e] with state := .faulted, fault := reason, attempts := s.seqs[e].attempts, reserved := false })
  exact ⟨hstart.seq, hstart.day, hstart.phase, hstart.completion⟩

theorem sameAt_stopEvent {d e : Fin 4} (hne : d ≠ e) (s : State) (reason : StopReason) :
    SameAt d s (s.stopEvent e reason) := by
  cases hstoppable : s.seqs[e].phase.stoppable with
  | false =>
    rw [State.stopEvent_of_not_stoppable hstoppable]
    exact .refl d s
  | true =>
    rw [State.stopEvent_of_stoppable hstoppable]
    split
    · exact sameAt_setSeq hne s _
    · exact (sameAt_setSeq hne s _).trans (sameAt_strokeFails hne _ _)

/-! ## The stop events of CELL STOP, in daylight order (R103, log 37) -/

/-- The stop events of CELL STOP on some daylights. -/
def State.stopAll (s : State) (l : List (Fin 4)) : State := l.foldl (fun acc d => acc.stopEvent d .stopped) s

theorem State.stopAll_cons (s : State) (d : Fin 4) (l : List (Fin 4)) :
    s.stopAll (d :: l) = (s.stopEvent d .stopped).stopAll l := rfl

theorem State.cellStopAsserts_eq (s : State) :
    s.cellStopAsserts = (s.stopAll (List.finRange 4)).raise .cellStop 0 s.cellStopDetail := rfl

theorem sameAt_stopAll {d : Fin 4} (l : List (Fin 4)) : ∀ s : State, d ∉ l → SameAt d s (s.stopAll l) := by
  induction l with
  | nil => exact fun s _ => .refl d s
  | cons e l ih =>
    intro s hd
    have hne : d ≠ e := fun h => hd (h ▸ List.mem_cons_self)
    rw [State.stopAll_cons]
    exact (sameAt_stopEvent hne s .stopped).trans (ih _ fun h => hd (List.mem_cons_of_mem e h))

/-- Among stop events on different daylights, the one of daylight `d` finds it as it was and leaves it as it then is. -/
theorem stopAll_reaches {d : Fin 4} (l : List (Fin 4)) : ∀ s : State, l.Nodup → d ∈ l →
    ∃ v, SameAt d s v ∧ StrokeFrame s v ∧ SameAt d (v.stopEvent d .stopped) (s.stopAll l) := by
  induction l with
  | nil => exact fun s _ hd => by cases hd
  | cons e l ih =>
    intro s hnodup hd
    obtain ⟨he, hl⟩ := List.nodup_cons.mp hnodup
    rw [State.stopAll_cons]
    by_cases hde : d = e
    · subst hde
      exact ⟨s, .refl d s, .refl s, sameAt_stopAll l _ he⟩
    · have hmem : d ∈ l := (List.mem_cons.mp hd).resolve_left hde
      obtain ⟨v, hsame, hframe, hafter⟩ := ih (s.stopEvent e .stopped) hl hmem
      exact ⟨v, (sameAt_stopEvent hde s .stopped).trans hsame, (strokeFrame_stopEvent s e .stopped).trans hframe,
          hafter⟩

/-- While every stroke that stops waits for EJECTED, the stop events report nothing. -/
theorem stopAll_offers (l : List (Fin 4)) : ∀ s : State,
    (∀ d : Fin 4, s.seqs[d].phase.stoppable = true → s.level (.ejected d) = true) →
      (s.stopAll l).offers = s.offers := by
  induction l with
  | nil => exact fun s _ => rfl
  | cons e l ih =>
    intro s hall
    have hframe := strokeFrame_stopEvent s e .stopped
    have hlevel (d : Fin 4) : (s.stopEvent e .stopped).level (.ejected d) = s.level (.ejected d) :=
      State.level_congr hframe.lines (congrArg MapUnit.map hframe.maps) _
    have hone : (s.stopEvent e .stopped).offers = s.offers := by
      cases hstoppable : s.seqs[e].phase.stoppable with
      | false => rw [State.stopEvent_of_not_stoppable hstoppable]
      | true =>
        rw [State.stopEvent_of_stoppable hstoppable, if_pos (hall e hstoppable)]
        rfl
    rw [State.stopAll_cons, ih _ fun d hd => ?_, hone]
    rw [State.stopEvent_stoppable, Bool.and_eq_true] at hd
    rw [hlevel]
    exact hall d hd.1

theorem sameAt_raise (d : Fin 4) (s : State) (k : CauseKind) (source detail : Byte) :
    SameAt d s (s.raise k source detail) := ⟨rfl, rfl, rfl, rfl⟩

theorem sameAt_deliver (d : Fin 4) (s : State) : SameAt d s s.deliver :=
  ⟨by rw [State.deliver_seqs], by rw [State.deliver_days], by rw [State.deliver_chans], by rw [State.deliver_chans]⟩

/-- What CELL STOP leaves of one daylight. -/
theorem cellStop_at {s : State} (x : Vector Line 32)
    (hlevels : ∀ d : Fin 4, (s.moved x).level (.ejected d) = s.level (.ejected d)) (d : Fin 4) :
    let t := (s.moved x).cellStopAsserts.deliver
    (s.seqs[d].phase.stoppable = false → t.seqs[d] = s.seqs[d] ∧ t.days[d] = s.days[d])
      ∧ (s.seqs[d].phase.stoppable = true → s.seqs[d].stop = .none →
          t.seqs[d].stop = .stopped
          ∧ (s.level (.ejected d) = true → t.seqs[d].phase = .finalRetract
              ∧ t.seqs[d].expiry = some (s.time + 1 + BitVec.ofNat 32 s.seqs[d].stroke)
              ∧ t.days[d] = s.days[d])
          ∧ (s.level (.ejected d) = false → t.demouldFailedAt s d .stopped)) := by
  intro t
  obtain ⟨v, hsame, hframe, hafter⟩ := stopAll_reaches (List.finRange 4) (s.moved x) (List.nodup_finRange 4)
    (List.mem_finRange d)
  have ht : SameAt d (v.stopEvent d .stopped) t := by
    refine (hafter.trans ?_).trans (sameAt_deliver d _)
    rw [State.cellStopAsserts_eq]
    exact sameAt_raise d _ _ _ _
  have hseq : v.seqs[d] = s.seqs[d] := hsame.seq
  have hday : v.days[d] = s.days[d] := hsame.day
  have htime : v.time = s.time + 1 := hframe.time
  have hejected : v.level (.ejected d) = s.level (.ejected d) :=
    (State.level_congr hframe.lines (congrArg MapUnit.map hframe.maps) _).trans (hlevels d)
  refine ⟨fun hno => ?_, fun hstoppable hnone => ?_⟩
  · rw [State.stopEvent_of_not_stoppable (by rw [hseq]; exact hno)] at ht
    exact ⟨ht.seq.trans hseq, ht.day.trans hday⟩
  · obtain ⟨hwaits, hfails⟩ := State.stopEvent_cases (s := v) (d := d) (by rw [hseq]; exact hstoppable)
      (by rw [hseq]; exact hnone) .stopped
    cases hin : s.level (.ejected d) with
    | true =>
      rw [hwaits (hejected.trans hin)] at ht
      have htseq : t.seqs[d] = { s.seqs[d] with
          phase := .finalRetract, stop := .stopped
          expiry := some (s.time + 1 + BitVec.ofNat 32 s.seqs[d].stroke) } := by
        rw [ht.seq, State.seq_setSeq, hseq, htime]
      refine ⟨by rw [htseq], fun _ => ⟨by rw [htseq], by rw [htseq], ht.day.trans hday⟩, fun h => by cases h⟩
    | false =>
      rw [hfails (hejected.trans hin)] at ht
      refine ⟨?_, (fun h => by cases h), fun _ => ?_⟩
      · rw [ht.seq, State.strokeFails_seqs, getElem_set_self_fin, State.seq_setSeq]
        rfl
      · refine State.demouldFailedAt_congr ht.seq ht.day ht.phase ht.completion
          (State.strokeFails_failedAt (s := s) (u := v.setSeq d _) hday ?_ hsame.phase _)
        rw [State.seq_setSeq, hseq]

/-- The fourth part of O42. -/
theorem cellStopChange {s : State} {pins : BitVec 32} {n : Fin 32} (hoffers : s.offers = [])
    (hchanging : s.changing pins = [n]) (hfunction : s.cell.lines[n].function? = some .cellStop) :
    ∃ t, exec (.debouncedChange n pins) s = .next t
      ∧ (s.lines[n].level = true → t.seqs = s.seqs ∧ t.days = s.days ∧ t.hist = s.hist ∧ t.att = s.att)
      ∧ (s.lines[n].level = false →
          (∀ d : Fin 4, s.seqs[d].phase.stoppable = false → t.seqs[d] = s.seqs[d] ∧ t.days[d] = s.days[d])
          ∧ (∀ d : Fin 4, s.seqs[d].phase.stoppable = true → s.seqs[d].stop = .none →
              t.seqs[d].stop = .stopped
              ∧ (s.level (.ejected d) = true → t.seqs[d].phase = .finalRetract
                  ∧ t.seqs[d].expiry = some (s.time + 1 + BitVec.ofNat 32 s.seqs[d].stroke)
                  ∧ t.days[d] = s.days[d])
              ∧ (s.level (.ejected d) = false → t.demouldFailedAt s d .stopped))
          ∧ ((∀ d : Fin 4, s.seqs[d].phase.stoppable = true → s.level (.ejected d) = true) →
              t.att = s.att.offer .cellStop 0 (byteOf (((List.finRange 4).filter fun d =>
                s.seqs[d].phase.stoppable && s.seqs[d].stop == .none).map fun d => 2 ^ d.val).sum))) := by
  obtain ⟨x, hexec, hother, -⟩ := debouncedChange_single hchanging
  have hlevels : ∀ d : Fin 4, (s.moved x).level (.ejected d) = s.level (.ejected d) := fun d =>
    hother _ (by rw [hfunction]; simp)
  rw [hfunction] at hexec
  cases hlevel : s.lines[n].level with
  | true =>
    have hreport : (s.moved x).reportChange (some .cellStop) (!true) = s.moved x := rfl
    rw [hlevel, hreport, State.deliver_nil (by exact hoffers)] at hexec
    exact ⟨_, hexec, fun _ => ⟨rfl, rfl, rfl, rfl⟩, fun h => by cases h⟩
  | false =>
    have hreport : (s.moved x).reportChange (some .cellStop) (!false) = (s.moved x).cellStopAsserts := rfl
    rw [hlevel, hreport] at hexec
    refine ⟨_, hexec, (fun h => by cases h), fun _ => ⟨fun d => (cellStop_at x hlevels d).1,
      fun d => (cellStop_at x hlevels d).2, fun hall => ?_⟩⟩
    have hnone : ((s.moved x).stopAll (List.finRange 4)).offers = [] :=
      (stopAll_offers _ _ fun d hd => (hlevels d).trans (hall d hd)).trans hoffers
    have hone : (s.moved x).cellStopAsserts.offers = [.cause .cellStop 0 (s.moved x).cellStopDetail] := by
      rw [State.cellStopAsserts_eq, State.raise_offers, hnone]
      rfl
    rw [State.deliver_single hone, State.setOffers_att, State.setAtt_att, (strokeFrame_cellStopAsserts _).att]
    rfl

/-- Settles O42, by the function of the line. -/
theorem closedLineMovesTheDaylight : Obligations.ClosedLineMovesTheDaylight := by
  refine ⟨fun s pins n d hoffers hchanging hfunction hidle => closedChange_idle hoffers hchanging hfunction hidle,
    fun s pins n d hoffers hchanging hfunction hlevel hstate hstoppable hnone =>
      closedChange_stops hoffers hchanging hfunction hlevel hstate hstoppable hnone,
    fun s pins n d hoffers hchanging hline => ?_,
    fun s pins n hoffers hchanging hfunction => cellStopChange hoffers hchanging hfunction⟩
  obtain ⟨x, hexec, -, hown⟩ := debouncedChange_single hchanging
  have hejected := hown _ hline
  rw [CellMap.lineOf_function hline] at hexec
  cases hlevel : s.lines[n].level with
  | false =>
    rw [hlevel] at hexec hejected
    exact ⟨_, hexec, fun _ => ejectedChange_asserts x hoffers hejected, fun h => by cases h⟩
  | true =>
    rw [hlevel] at hexec hejected
    exact ⟨_, hexec, (fun h => by cases h), fun _ => ejectedChange_deasserts x hoffers hejected⟩

end Sys2Proof.Machine
end
